-- ==== Sys2Proof/Word.lean ====
section
/-! DEFINITION. The block's words: the byte of the stream and the fields cut from it (00_scope.md R10, R12). -/

namespace Sys2Proof

/-- The unit of the stream: one byte, every value 0-255 legal (20_memory.md R51, 30_encoding.md R70). -/
abbrev Byte := BitVec 8

/-- The payload of a data byte, 0-127 (30_encoding.md R72). -/
abbrev Data7 := BitVec 7

/-- A four-bit field: a channel number or one half of an MTC byte (30_encoding.md R76). -/
abbrev Nibble := BitVec 4

/-- The 14-bit value of Pitch Bend and Song Position Pointer (41_data_bytes.md R150). -/
abbrev Value14 := BitVec 14

/-- A channel as a value: 0-15, or the sentinel None (10_state.md R32). -/
abbrev Channel := Option Nibble

/-- A channel as the registers and ports hold it: the five bits `is_none, ch[3:0]` (10_state.md R32). -/
abbrev ChanCode := BitVec 5

end Sys2Proof
end

