-- ==== Sys2Proof/Syntax.lean ====
section
/-! DEFINITION. The kinds of messages, the instructions (one constructor per row of spec/opcode_table.json), and
the input ports of one activation, which are the words a host operation is encoded in (42_host_operations.md R187). -/

namespace Sys2Proof

/-- The 5-bit kind codes of 10_state.md R31, in their order; `unused n` is code 28 + n, which names no kind.
R31 lets a model use an enumerated type. -/
inductive Kind where
  | none
  | noteOff | noteOn | polyKeyPressure | controlChange | programChange | channelPressure | pitchBend
  | allSoundOff | resetAllControllers | localControl | allNotesOff | omniOff | omniOn | monoOn | polyOn
  | sysexStart | mtcQuarterFrame | songPositionPointer | songSelect | tuneRequest | endOfExclusive
  | timingClock | start | cont | stop | activeSense | systemReset
  | unused (n : BitVec 2)
deriving DecidableEq, Repr

/-- The instructions: 23 status bytes, 13 rows of a data byte (one per pending kind), 5 host operations.
`c` of a status byte is `b[3:0]`; `b` of a data row is the whole byte (assumption log 16). -/
inductive Instr where
  -- status bytes (40_status_bytes.md)
  | stNoteOff (c : Nibble)
  | stNoteOn (c : Nibble)
  | stPolyKeyPressure (c : Nibble)
  | stControlChange (c : Nibble)
  | stProgramChange (c : Nibble)
  | stChannelPressure (c : Nibble)
  | stPitchBend (c : Nibble)
  | stSysexStart
  | stMtcQuarterFrame
  | stSongPositionPointer
  | stSongSelect
  | undefF4
  | undefF5
  | stTuneRequest
  | stEndOfExclusive
  | rtTimingClock
  | undefF9
  | rtStart
  | rtContinue
  | rtStop
  | undefFD
  | rtActiveSense
  | rtSystemReset
  -- a data byte, by the pending kind it meets (41_data_bytes.md)
  | dataNoteOff (b : Byte)
  | dataNoteOn (b : Byte)
  | dataPolyKeyPressure (b : Byte)
  | dataControlChange (b : Byte)
  | dataPitchBend (b : Byte)
  | dataSongPositionPointer (b : Byte)
  | dataProgramChange (b : Byte)
  | dataChannelPressure (b : Byte)
  | dataSongSelect (b : Byte)
  | dataMtcQuarterFrame (b : Byte)
  | dataSysex (b : Byte)
  | dataNone (b : Byte)
  | dataOther (b : Byte)
  -- host operations (42_host_operations.md)
  | init
  | reset
  | setac (c : ChanCode)
  | getac
  | decode (b : Byte)
deriving DecidableEq, Repr

/-- The input ports of one activation (42_host_operations.md R187). `acRead` is the model's mark that the host reads
`ac_rdata` in this activation, which is how GETAC is encoded (R184; DESIGN CHOICE, assumption log 4). -/
structure Activation where
  opInit  : Bool := false
  opReset : Bool := false
  inValid : Bool := false
  inByte  : Byte := 0
  acWe    : Bool := false
  acWdata : ChanCode := 0
  acRead  : Bool := false
deriving DecidableEq, Repr

end Sys2Proof
end

