-- ==== Sys2Proof/Config.lean ====
section
/-! DEFINITION. What the spec leaves to the model as a parameter (00_scope.md R11), as plain data held in State, and
the free values of the ports it leaves unspecified (42_host_operations.md R188, R189). The default table stands in
Decode.lean. -/

namespace Sys2Proof

/-- The 23 rows of STATUS_MAP that a status byte can be classed as (30_encoding.md R74), without their operands. -/
inductive StatusRow where
  | noteOff | noteOn | polyKeyPressure | controlChange | programChange | channelPressure | pitchBend
  | sysexStart | mtcQuarterFrame | songPositionPointer | songSelect | undefF4 | undefF5
  | tuneRequest | endOfExclusive | timingClock | undefF9 | start | cont | stop | undefFD | activeSense | systemReset
deriving DecidableEq, Repr

/-- One line of the table of 30_encoding.md R74: the bytes `b` with `b AND mask = pat` are classed as `row`. -/
structure MapRow where
  pat  : Byte
  mask : Byte
  row  : StatusRow
deriving DecidableEq, Repr

/-- The two open parameters of the block (00_scope.md R10, R11). They are fixed for one machine: no step writes them. -/
structure Params where
  /-- STATUS_MAP: how status bytes are classed. -/
  statusMap : List MapRow
  /-- SPP_RS: a completed Song Position Pointer keeps running status (41_data_bytes.md R149). -/
  sppRs : Bool
deriving DecidableEq, Repr

/-! The free values (93_implementation_defined.md U8, U9: any value): what an output port shows where the spec leaves
it unspecified. Each is applied to the count of steps; nothing can be proved of it (assumption log 19). -/

opaque Config.freeCh : Nat → ChanCode
opaque Config.freeF1 : Nat → Data7
opaque Config.freeF2 : Nat → Data7
opaque Config.freeV14 : Nat → Value14
opaque Config.freeMtcType : Nat → Nibble
opaque Config.freeMtcValue : Nat → Nibble

end Sys2Proof
end

