-- ==== Sys2Proof/WellFormed.lean ====
section
/-! DEFINITION. Which instructions are well formed: a data row's byte has bit 7 clear (30_encoding.md R71, R72).
Every other operand is legal at every value (42_host_operations.md R192). -/

namespace Sys2Proof

/-- Bit 7 is clear: the byte is a data byte (30_encoding.md R72). -/
def isDataByte (b : Byte) : Bool := !b.msb

/-- The instruction is one the encodings of the spec admit. -/
def Instr.WellFormed : Instr → Bool
  | .dataNoteOff b => isDataByte b
  | .dataNoteOn b => isDataByte b
  | .dataPolyKeyPressure b => isDataByte b
  | .dataControlChange b => isDataByte b
  | .dataPitchBend b => isDataByte b
  | .dataSongPositionPointer b => isDataByte b
  | .dataProgramChange b => isDataByte b
  | .dataChannelPressure b => isDataByte b
  | .dataSongSelect b => isDataByte b
  | .dataMtcQuarterFrame b => isDataByte b
  | .dataSysex b => isDataByte b
  | .dataNone b => isDataByte b
  | .dataOther b => isDataByte b
  | .stNoteOff _ | .stNoteOn _ | .stPolyKeyPressure _ | .stControlChange _ | .stProgramChange _
  | .stChannelPressure _ | .stPitchBend _ | .stSysexStart | .stMtcQuarterFrame | .stSongPositionPointer
  | .stSongSelect | .undefF4 | .undefF5 | .stTuneRequest | .stEndOfExclusive | .rtTimingClock | .undefF9
  | .rtStart | .rtContinue | .rtStop | .undefFD | .rtActiveSense | .rtSystemReset
  | .init | .reset | .setac _ | .getac | .decode _ => true

end Sys2Proof
end

