-- ==== Sys2Proof/Decode.lean ====
section
/-! DEFINITION. From bytes and port strobes to instructions, total and with every rejection named; after it the
encoder, written from the same encodings (30_encoding.md R70-R85, 42_host_operations.md R187). -/

namespace Sys2Proof

/-! ## Fields of a byte (30_encoding.md R71-R76) -/

/-- `b[7] = 1`: a status byte (30_encoding.md R71, 40_status_bytes.md R100). -/
def isStatusByte (b : Byte) : Bool := b.msb

/-- `b[3:0]`: the channel of a channel voice status, or the MTC value nibble. -/
def lowNibble (b : Byte) : Nibble := b.extractLsb' 0 4

/-- `b[7:4]`: the MTC type nibble. -/
def highNibble (b : Byte) : Nibble := b.extractLsb' 4 4

/-- `b[6:0]`: the 7-bit value of a data byte. -/
def data7 (b : Byte) : Data7 := b.extractLsb' 0 7

/-! ## STATUS_MAP (30_encoding.md R74) -/

/-- The default STATUS_MAP: the MIDI 1.0 table of 30_encoding.md R74, row by row. The values but 0xF0, 0xF6 and 0xF7
are the spec's general knowledge G1 and G2 (PRESUMED, assumption log 6). -/
def midiStatusMap : List MapRow :=
  [⟨0x80, 0xF0, .noteOff⟩, ⟨0x90, 0xF0, .noteOn⟩, ⟨0xA0, 0xF0, .polyKeyPressure⟩, ⟨0xB0, 0xF0, .controlChange⟩,
   ⟨0xC0, 0xF0, .programChange⟩, ⟨0xD0, 0xF0, .channelPressure⟩, ⟨0xE0, 0xF0, .pitchBend⟩] ++
  [⟨0xF0, 0xFF, .sysexStart⟩, ⟨0xF1, 0xFF, .mtcQuarterFrame⟩, ⟨0xF2, 0xFF, .songPositionPointer⟩,
   ⟨0xF3, 0xFF, .songSelect⟩, ⟨0xF4, 0xFF, .undefF4⟩, ⟨0xF5, 0xFF, .undefF5⟩, ⟨0xF6, 0xFF, .tuneRequest⟩,
   ⟨0xF7, 0xFF, .endOfExclusive⟩] ++
  [⟨0xF8, 0xFF, .timingClock⟩, ⟨0xF9, 0xFF, .undefF9⟩, ⟨0xFA, 0xFF, .start⟩, ⟨0xFB, 0xFF, .cont⟩,
   ⟨0xFC, 0xFF, .stop⟩, ⟨0xFD, 0xFF, .undefFD⟩, ⟨0xFE, 0xFF, .activeSense⟩, ⟨0xFF, 0xFF, .systemReset⟩]

/-- The parameters at their defaults (00_scope.md R10, R11). -/
def defaultParams : Params := { statusMap := midiStatusMap, sppRs := true }

/-- The byte fits the match and mask of the row. -/
def MapRow.fits (r : MapRow) (b : Byte) : Bool := b &&& r.mask == r.pat

/-- The row of STATUS_MAP a status byte is classed as: the first that fits (under the default table the only one,
40_status_bytes.md R101). A byte that no row of a table fits is "Any other/undefined status byte value" (R124); the
row UNDEF_F4 stands for it (DESIGN CHOICE, assumption log 6). -/
def lookupStatus (m : List MapRow) (b : Byte) : StatusRow :=
  match m.find? (fun r => r.fits b) with
  | some r => r.row
  | none => .undefF4

/-! ## A byte of the stream -/

/-- The status instruction of a row, with its operand cut from the byte. -/
def statusInstr (r : StatusRow) (b : Byte) : Instr :=
  match r with
  | .noteOff => .stNoteOff (lowNibble b)
  | .noteOn => .stNoteOn (lowNibble b)
  | .polyKeyPressure => .stPolyKeyPressure (lowNibble b)
  | .controlChange => .stControlChange (lowNibble b)
  | .programChange => .stProgramChange (lowNibble b)
  | .channelPressure => .stChannelPressure (lowNibble b)
  | .pitchBend => .stPitchBend (lowNibble b)
  | .sysexStart => .stSysexStart
  | .mtcQuarterFrame => .stMtcQuarterFrame
  | .songPositionPointer => .stSongPositionPointer
  | .songSelect => .stSongSelect
  | .undefF4 => .undefF4
  | .undefF5 => .undefF5
  | .tuneRequest => .stTuneRequest
  | .endOfExclusive => .stEndOfExclusive
  | .timingClock => .rtTimingClock
  | .undefF9 => .undefF9
  | .start => .rtStart
  | .cont => .rtContinue
  | .stop => .rtStop
  | .undefFD => .undefFD
  | .activeSense => .rtActiveSense
  | .systemReset => .rtSystemReset

/-- The row of a data byte under the pending kind `pk`: the table's `when` column (30_encoding.md R85). -/
def dataInstr (pk : Kind) (b : Byte) : Instr :=
  match pk with
  | .none => .dataNone b
  | .noteOff => .dataNoteOff b
  | .noteOn => .dataNoteOn b
  | .polyKeyPressure => .dataPolyKeyPressure b
  | .controlChange => .dataControlChange b
  | .programChange => .dataProgramChange b
  | .channelPressure => .dataChannelPressure b
  | .pitchBend => .dataPitchBend b
  | .sysexStart => .dataSysex b
  | .mtcQuarterFrame => .dataMtcQuarterFrame b
  | .songPositionPointer => .dataSongPositionPointer b
  | .songSelect => .dataSongSelect b
  | .allSoundOff | .resetAllControllers | .localControl | .allNotesOff | .omniOff | .omniOn | .monoOn | .polyOn
  | .tuneRequest | .endOfExclusive | .timingClock | .start | .cont | .stop | .activeSense | .systemReset
  | .unused _ => .dataOther b

/-- The row a byte selects: by bit 7, then by STATUS_MAP or by the pending kind (40_status_bytes.md R100, R101;
41_data_bytes.md R140). Every byte selects one: the block has no illegal encoding (30_encoding.md R70). -/
def decodeByte (m : List MapRow) (pk : Kind) (b : Byte) : Instr :=
  if isStatusByte b then statusInstr (lookupStatus m b) b else dataInstr pk b

/-! ## An activation of the ports -/

/-- Why an activation is no single instruction. -/
inductive DecodeReject where
  /-- No strobe is set: the host issues no operation. -/
  | noStrobe
  /-- More than one strobe is set: several operations in one step, which 42_host_operations.md R190 orders. -/
  | severalStrobes
deriving DecidableEq, Repr

/-- What a decoder answers. -/
inductive Decoded where
  | instr (i : Instr)
  | rejected (r : DecodeReject)
deriving DecidableEq, Repr

/-- The host operation the strobes name (42_host_operations.md R180, R187). -/
def hostOp (a : Activation) : Decoded :=
  match a.opInit, a.opReset, a.acWe, a.acRead, a.inValid with
  | true, false, false, false, false => .instr .init
  | false, true, false, false, false => .instr .reset
  | false, false, true, false, false => .instr (.setac a.acWdata)
  | false, false, false, true, false => .instr .getac
  | false, false, false, false, true => .instr (.decode a.inByte)
  | false, false, false, false, false => .rejected .noStrobe
  | _, _, _, _, _ => .rejected .severalStrobes

/-- The instruction of an activation: its host operation, and for DECODE the row its byte selects
(42_host_operations.md R185: "the byte selects one row of format `status` or `data`"). -/
def decodeActivation (m : List MapRow) (pk : Kind) (a : Activation) : Decoded :=
  match hostOp a with
  | .instr (.decode b) => .instr (decodeByte m pk b)
  | d => d

/-- The decoder on the words of spec/opcode_table.json. A row has 8 bits (30_encoding.md R70). Thirteen rows share the
encoding of a data byte and differ in pk only; the pending kind is here that of the machine right after reset, NONE
(assumption log 18). -/
def decodeTableWord (nbits w : Nat) : Option Instr :=
  if nbits = 8 ∧ w < 256 then some (decodeByte midiStatusMap .none (BitVec.ofNat 8 w)) else none

/-! ## The encoder -/

/-- The byte of an instruction of the stream under the default STATUS_MAP (30_encoding.md R83); a host operation has
no byte of its own, and DECODE's is its operand (R82). -/
def encodeByte : Instr → Option Byte
  | .stNoteOff c => some (0x8#4 ++ c)
  | .stNoteOn c => some (0x9#4 ++ c)
  | .stPolyKeyPressure c => some (0xA#4 ++ c)
  | .stControlChange c => some (0xB#4 ++ c)
  | .stProgramChange c => some (0xC#4 ++ c)
  | .stChannelPressure c => some (0xD#4 ++ c)
  | .stPitchBend c => some (0xE#4 ++ c)
  | .stSysexStart => some 0xF0
  | .stMtcQuarterFrame => some 0xF1
  | .stSongPositionPointer => some 0xF2
  | .stSongSelect => some 0xF3
  | .undefF4 => some 0xF4
  | .undefF5 => some 0xF5
  | .stTuneRequest => some 0xF6
  | .stEndOfExclusive => some 0xF7
  | .rtTimingClock => some 0xF8
  | .undefF9 => some 0xF9
  | .rtStart => some 0xFA
  | .rtContinue => some 0xFB
  | .rtStop => some 0xFC
  | .undefFD => some 0xFD
  | .rtActiveSense => some 0xFE
  | .rtSystemReset => some 0xFF
  | .dataNoteOff b => some b
  | .dataNoteOn b => some b
  | .dataPolyKeyPressure b => some b
  | .dataControlChange b => some b
  | .dataPitchBend b => some b
  | .dataSongPositionPointer b => some b
  | .dataProgramChange b => some b
  | .dataChannelPressure b => some b
  | .dataSongSelect b => some b
  | .dataMtcQuarterFrame b => some b
  | .dataSysex b => some b
  | .dataNone b => some b
  | .dataOther b => some b
  | .decode b => some b
  | .init => none
  | .reset => none
  | .setac _ => none
  | .getac => none

/-- The activation that carries one byte (42_host_operations.md R185, R187). -/
def byteActivation (b : Byte) : Activation := { inValid := true, inByte := b }

/-- The strobes of the four host operations that carry no byte (42_host_operations.md R181-R184, R187). -/
def hostStrobes : Instr → Activation
  | .init => { opInit := true }
  | .reset => { opReset := true }
  | .setac c => { acWe := true, acWdata := c }
  | .getac => { acRead := true }
  | _ => {}

/-- The port strobes of an instruction (30_encoding.md R82, 42_host_operations.md R187). -/
def encode (i : Instr) : Activation :=
  match encodeByte i with
  | some b => byteActivation b
  | none => hostStrobes i

/-- The pending kinds under which the decoder reads the instruction's byte as this row: the table's `when` column
(30_encoding.md R85). A status byte and a host operation have no condition. -/
def Instr.appliesUnder (i : Instr) (pk : Kind) : Bool :=
  match i with
  | .dataNoteOff _ => pk == .noteOff
  | .dataNoteOn _ => pk == .noteOn
  | .dataPolyKeyPressure _ => pk == .polyKeyPressure
  | .dataControlChange _ => pk == .controlChange
  | .dataPitchBend _ => pk == .pitchBend
  | .dataSongPositionPointer _ => pk == .songPositionPointer
  | .dataProgramChange _ => pk == .programChange
  | .dataChannelPressure _ => pk == .channelPressure
  | .dataSongSelect _ => pk == .songSelect
  | .dataMtcQuarterFrame _ => pk == .mtcQuarterFrame
  | .dataSysex _ => pk == .sysexStart
  | .dataNone _ => pk == .none
  | .dataOther _ =>
    !([.none, .noteOff, .noteOn, .polyKeyPressure, .controlChange, .programChange, .channelPressure, .pitchBend,
       .sysexStart, .mtcQuarterFrame, .songPositionPointer, .songSelect].contains pk)
  | .stNoteOff _ | .stNoteOn _ | .stPolyKeyPressure _ | .stControlChange _ | .stProgramChange _
  | .stChannelPressure _ | .stPitchBend _ | .stSysexStart | .stMtcQuarterFrame | .stSongPositionPointer
  | .stSongSelect | .undefF4 | .undefF5 | .stTuneRequest | .stEndOfExclusive | .rtTimingClock | .undefF9
  | .rtStart | .rtContinue | .rtStop | .undefFD | .rtActiveSense | .rtSystemReset
  | .init | .reset | .setac _ | .getac | .decode _ => true

end Sys2Proof
end

