-- ==== Sys2Proof/Machine/State.lean ====
section
/-! DEFINITION. The state of one block instance, the messages it reports, and the reasons a step is refused
(10_state.md; 42_host_operations.md R187; 70_reset_and_hazards.md R235, R243). -/

namespace Sys2Proof.Machine

/-- A message's kind and its own fields (10_state.md R30): one constructor per kind of message. -/
inductive Payload where
  | noteOff (note velocity : Data7)
  | noteOn (note velocity : Data7)
  | polyKeyPressure (key pressure : Data7)
  | controlChange (controller value : Data7)
  | allSoundOff (controller value : Data7)
  | resetAllControllers (controller value : Data7)
  | localControl (controller value : Data7)
  | allNotesOff (controller value : Data7)
  | omniOff (controller value : Data7)
  | omniOn (controller value : Data7)
  | monoOn (controller value : Data7)
  | polyOn (controller value : Data7)
  | programChange (program : Data7)
  | channelPressure (pressure : Data7)
  | pitchBend (value : Value14)
  | sysExStart
  | mtcQuarterFrame (mtcType mtcValue : Nibble)
  | songPositionPointer (value : Value14)
  | songSelect (song : Data7)
  | tuneRequest
  | endOfExclusive
  | timingClock
  | start
  | cont
  | stop
  | activeSense
  | systemReset
deriving DecidableEq, Repr

/-- A message: "a tagged union keyed by MessageKind, carrying a Channel plus kind-specific payload" (10_state.md R30). -/
structure Message where
  ch      : Channel
  payload : Payload
deriving DecidableEq, Repr

/-- The whole state of one instance of the block, the source's `ParserState`: exactly these fields (10_state.md R23). -/
structure Parser where
  /-- `pk`: the running status (R24). -/
  pk   : Kind
  /-- `pch`: the channel code of the pending kind (R26, R32). -/
  pch  : ChanCode
  /-- `ach`: the active-channel code, read by no decode (R25). -/
  ach  : ChanCode
  /-- `buf[0]` (R27). -/
  buf0 : Byte
  /-- `buf[1]` (R27). -/
  buf1 : Byte
  /-- `cnt`: the data bytes accumulated (R28). -/
  cnt  : BitVec 2
deriving DecidableEq, Repr

/-- What the outside hands the block next: one activation of its ports by its one host, or operations of two
unsynchronised hosts at once (20_memory.md R62; assumption log 5). -/
inductive Input where
  | one (a : Activation)
  | clash (a b : Activation)
deriving DecidableEq, Repr

/-- The machine: the block's state, its parameters, what the host will do, and what the last step showed. -/
structure State where
  /-- The six fields of the block (10_state.md R23). -/
  parser : Parser
  /-- Whether the first init or reset has happened (70_reset_and_hazards.md R235; assumption log 3). -/
  initialised : Bool
  /-- The open parameters (00_scope.md R11); no step writes them. -/
  params : Params
  /-- The host's operations not yet taken, oldest first (42_host_operations.md R180; assumption log 1). -/
  input : List Input
  /-- The message the last step's decode completed, if it did (10_state.md R34; 42_host_operations.md R188). -/
  result : Option Message
  /-- What the last step's get_active_channel returned, if it was one (42_host_operations.md R184). -/
  ret : Option Channel
  /-- What the port `ac_rdata` showed in the last step: `ach` from before it (42_host_operations.md R187, R190). -/
  acRdata : ChanCode
  /-- The model's own count of steps, which makes each step's unspecified ports fresh (assumption log 19). -/
  tick : Nat
deriving DecidableEq, Repr

/-- No step of the block faults: it "raises no exception, no trap and no fault, and never stops" (60_exceptions.md
R200). The type is empty. -/
inductive Fault where
deriving DecidableEq, Repr

/-- The reasons a step is refused. -/
inductive Refusal where
  /-- Raised by `exec` for an instruction with no meaning yet; no arm uses it. Safe: nothing is claimed. -/
  | notModelled (mnemonic : String)
  /-- Raised by every decode, set_active_channel and get_active_channel before the first init (70_reset_and_hazards.md
  R235, R243: "refused: the model gives it no meaning"). Safe: nothing is claimed of such a run. -/
  | beforeInit
  /-- Raised by a step that meets two unsynchronised hosts (20_memory.md R62, 70_reset_and_hazards.md R243). Safe:
  nothing is claimed of such a run. -/
  | unsynchronisedHosts
deriving DecidableEq, Repr

/-- The six fields right after init or reset (10_state.md R29, 70_reset_and_hazards.md R230). -/
def Parser.reset : Parser :=
  { pk := .none, pch := 0b10000, ach := 0b10000, buf0 := 0x00, buf1 := 0x00, cnt := 0 }

/-- The machine right after reset, parameters at their defaults (00_scope.md R11), no operation pending and no message
(70_reset_and_hazards.md R231). `ret`, `acRdata` and `tick` are DESIGN CHOICE (assumption log 19, 20). -/
def State.reset : State :=
  { parser := Parser.reset, initialised := true, params := defaultParams, input := [], result := none, ret := none,
    acRdata := 0b10000, tick := 0 }

end Sys2Proof.Machine
end

