-- ==== Sys2Proof/Machine/Operands.lean ====
section
/-! DEFINITION. The operands of the rules: data bytes a kind needs, channel codes, the 14-bit value, and the message
each pair or single data byte assembles (00_scope.md R16; 10_state.md R32; 30_encoding.md R76; 41_data_bytes.md). -/

namespace Sys2Proof.Machine

/-- `need(k)`: how many data bytes a message of kind `k` takes (00_scope.md R16). -/
def need : Kind → Nat
  | .noteOff | .noteOn | .polyKeyPressure | .controlChange | .pitchBend | .songPositionPointer => 2
  | .programChange | .channelPressure | .songSelect | .mtcQuarterFrame => 1
  | .none | .sysexStart | .allSoundOff | .resetAllControllers | .localControl | .allNotesOff | .omniOff | .omniOn
  | .monoOn | .polyOn | .tuneRequest | .endOfExclusive | .timingClock | .start | .cont | .stop | .activeSense
  | .systemReset | .unused _ => 0

/-- The channel codes of 10_state.md R32: channel c is `0b0_cccc`, None is `0b1_0000`. -/
def chanCode : Channel → ChanCode
  | some c => 0#1 ++ c
  | none => 0b10000

/-- A channel code as it is read: bit 4 set is None, also for the codes 0b1_0001..0b1_1111 (10_state.md R32). -/
def chanValue (code : ChanCode) : Channel :=
  if code.msb then none else some (code.extractLsb' 0 4)

/-- `V14(first, second) = (zext_14(second) << 7) | zext_14(first)` (41_data_bytes.md R150). -/
def v14 (first second : Data7) : Value14 := (second.zeroExtend 14 <<< 7) ||| first.zeroExtend 14

/-- 41_data_bytes.md R143. -/
def assembleNoteOff (ch : Channel) (first second : Data7) : Message := ⟨ch, .noteOff first second⟩

/-- 41_data_bytes.md R144: velocity 0 is reported as Note Off. -/
def assembleNoteOn (ch : Channel) (first second : Data7) : Message :=
  if second = 0 then ⟨ch, .noteOff first 0⟩ else ⟨ch, .noteOn first second⟩

/-- 41_data_bytes.md R145. -/
def assemblePolyKeyPressure (ch : Channel) (first second : Data7) : Message := ⟨ch, .polyKeyPressure first second⟩

/-- `CM(n)`: the channel-mode message of a controller 120-127 (41_data_bytes.md R147; the pairing is PRESUMED by the
spec, G3, assumption log 8). The last arm is controller 127. -/
def channelMode (controller value : Data7) : Payload :=
  match controller.toNat with
  | 120 => .allSoundOff controller value
  | 121 => .resetAllControllers controller value
  | 122 => .localControl controller value
  | 123 => .allNotesOff controller value
  | 124 => .omniOff controller value
  | 125 => .omniOn controller value
  | 126 => .monoOn controller value
  | _ => .polyOn controller value

/-- 41_data_bytes.md R146: controllers 120-127 are reclassified to their channel-mode kind. -/
def assembleControlChange (ch : Channel) (first second : Data7) : Message :=
  if 120 ≤ first.toNat then ⟨ch, channelMode first second⟩ else ⟨ch, .controlChange first second⟩

/-- 41_data_bytes.md R148. -/
def assemblePitchBend (ch : Channel) (first second : Data7) : Message := ⟨ch, .pitchBend (v14 first second)⟩

/-- 41_data_bytes.md R149: the message's channel is None whatever `pch` holds. -/
def assembleSongPositionPointer (_ : Channel) (first second : Data7) : Message :=
  ⟨none, .songPositionPointer (v14 first second)⟩

/-- 41_data_bytes.md R152. -/
def assembleProgramChange (ch : Channel) (b : Byte) : Message := ⟨ch, .programChange (data7 b)⟩

/-- 41_data_bytes.md R153. -/
def assembleChannelPressure (ch : Channel) (b : Byte) : Message := ⟨ch, .channelPressure (data7 b)⟩

/-- 41_data_bytes.md R154. -/
def assembleSongSelect (_ : Channel) (b : Byte) : Message := ⟨none, .songSelect (data7 b)⟩

/-- 41_data_bytes.md R155. -/
def assembleMtcQuarterFrame (_ : Channel) (b : Byte) : Message :=
  ⟨none, .mtcQuarterFrame (highNibble b) (lowNibble b)⟩

end Sys2Proof.Machine
end

