-- ==== Sys2Proof/Machine/Ops.lean ====
section
/-! DEFINITION. The named operations every meaning is made of: reading and writing the six fields, the common actions
of the status classes, the data path, and how an operation of the host ends. The block takes no exception and so has no
exception entry and no return (60_exceptions.md R200, R206); a real-time byte's interruption is `rtStatus`. -/

namespace Sys2Proof.Machine

/-- How a decode step leaves the block: the next six fields, and one message or none (00_scope.md R14). -/
abbrev Reply := Parser × Option Message

/-! ## How a host operation ends -/

/-- The next state of an operation that reports no message and returns no value. -/
def State.quiet (s : State) : State := { s with result := none, ret := none }

/-- A decode step: refused before the first init (70_reset_and_hazards.md R235), and otherwise the reply written to
the block and shown (42_host_operations.md R185, R188). -/
def decodeWith (f : Parser → Reply) (s : State) : Host.Outcome State Fault Refusal :=
  if s.initialised then
    .next { s with parser := (f s.parser).1, result := (f s.parser).2, ret := none }
  else .refused .beforeInit

/-- The next outcome after `o`, if `o` is a next state. -/
def andThen (o : Host.Outcome State Fault Refusal) (f : State → Host.Outcome State Fault Refusal) :
    Host.Outcome State Fault Refusal :=
  match o with
  | .next s => f s
  | .fault r => .fault r
  | .refused r => .refused r

/-- The listing of 42_host_operations.md R181: every field to its reset value. -/
def clearParser (_ : Parser) : Parser :=
  { pk := .none, pch := chanCode none, ach := chanCode none, buf0 := 0x00, buf1 := 0x00, cnt := 0 }

/-- init and reset, which have one effect in every state and report nothing (42_host_operations.md R181, R182;
70_reset_and_hazards.md R231, R232). -/
def reinit (s : State) : Host.Outcome State Fault Refusal :=
  .next { s.quiet with parser := clearParser s.parser, initialised := true }

/-- The active channel as it is read (10_state.md R32, 42_host_operations.md R184). -/
def readActive (p : Parser) : Channel := chanValue p.ach

/-- Writing the active channel: codes above 0b1_0000 are stored as None (42_host_operations.md R183). -/
def writeActive (c : ChanCode) (p : Parser) : Parser := { p with ach := chanCode (chanValue c) }

/-! ## The common actions of the status classes (40_status_bytes.md) -/

/-- `CV_STATUS(K)` (40_status_bytes.md R102). -/
def cvStatus (k : Kind) (c : Nibble) (p : Parser) : Reply :=
  ({ p with pk := k, pch := chanCode (some c), cnt := 0 }, none)

/-- `SC_PAYLOAD_STATUS(K)` (40_status_bytes.md R110). -/
def scPayloadStatus (k : Kind) (p : Parser) : Reply :=
  ({ p with pk := k, pch := chanCode none, cnt := 0 }, none)

/-- System Exclusive start (40_status_bytes.md R111). -/
def sysexStatus (p : Parser) : Reply :=
  ({ p with pk := .sysexStart, pch := chanCode none, cnt := 0 }, some ⟨none, .sysExStart⟩)

/-- A system common status with no payload: clears running status and completes (40_status_bytes.md R115, R116). -/
def scBareStatus (m : Payload) (p : Parser) : Reply :=
  ({ p with pk := .none, pch := chanCode none, cnt := 0 }, some ⟨none, m⟩)

/-- `RT_STATUS(K)`: completes and writes no field (40_status_bytes.md R117; 60_exceptions.md R205-R207). -/
def rtStatus (m : Payload) (p : Parser) : Reply := (p, some ⟨none, m⟩)

/-- `UNDEF_STATUS`: no message, no field written (40_status_bytes.md R124). -/
def undefStatus (p : Parser) : Reply := (p, none)

/-! ## The data path (41_data_bytes.md) -/

/-- The data byte above 127, ignored with no field written (41_data_bytes.md R158). -/
def ignoreByte (p : Parser) : Reply := (p, none)

/-- The overflow guard: the count cleared, the byte lost (41_data_bytes.md R141). -/
def overflowGuard (p : Parser) : Reply := ({ p with cnt := 0 }, none)

/-- `buf[i] <- b`, for the two entries of the buffer (10_state.md R27). -/
def bufWrite (i : BitVec 2) (b : Byte) (p : Parser) : Parser :=
  if i = 0 then { p with buf0 := b } else { p with buf1 := b }

/-- `ACC2(b)`: a data byte of a two-data-byte kind (41_data_bytes.md R142). -/
def acc2 (assemble : Channel → Data7 → Data7 → Message) (b : Byte) (p : Parser) : Reply :=
  let p1 := bufWrite p.cnt b p
  let p2 := { p1 with cnt := p1.cnt + 1 }
  if p2.cnt = 2 then
    ({ p2 with cnt := 0 }, some (assemble (chanValue p2.pch) (data7 p2.buf0) (data7 p2.buf1)))
  else (p2, none)

/-- `ONE(b)` for a kind that keeps running status (41_data_bytes.md R151-R153). -/
def oneKeep (assemble : Channel → Byte → Message) (b : Byte) (p : Parser) : Reply :=
  (p, some (assemble (chanValue p.pch) b))

/-- `ONE(b)` for a kind that clears running status (41_data_bytes.md R151, R154, R155). -/
def oneClear (assemble : Channel → Byte → Message) (b : Byte) (p : Parser) : Reply :=
  ({ p with pk := .none }, some (assemble (chanValue p.pch) b))

/-- The end of a Song Position Pointer with SPP_RS: when the parameter is false, a completion also writes
`pk <- NONE` (00_scope.md R11, 41_data_bytes.md R149). -/
def sppEnd (sppRs : Bool) (r : Reply) : Reply :=
  if r.2.isSome && !sppRs then ({ r.1 with pk := .none }, r.2) else r

/-- The checks of 41_data_bytes.md R140 before a byte of a kind with `n` data bytes is taken, in their order. -/
def dataChecks (n : Nat) (b : Byte) (take : Parser → Reply) (p : Parser) : Reply :=
  if 127 < b.toNat then ignoreByte p
  else if n ≤ p.cnt.toNat then overflowGuard p
  else take p

end Sys2Proof.Machine
end

