-- ==== Sys2Proof/Machine/DataBytes.lean ====
section
/-! DEFINITION. The meanings of a data byte, one per row of the opcode table, that is per pending kind
(41_data_bytes.md). Each is the rule of its own row; the decoder picks the row by `pk` (assumption log 17). -/

namespace Sys2Proof.Machine

/-! ## Two-data-byte kinds (R142-R150) -/

/-- 41_data_bytes.md R143. -/
def execDataNoteOff (b : Byte) (s : State) : Host.Outcome State Fault Refusal :=
  decodeWith (dataChecks (need .noteOff) b (acc2 assembleNoteOff b)) s

/-- 41_data_bytes.md R144. -/
def execDataNoteOn (b : Byte) (s : State) : Host.Outcome State Fault Refusal :=
  decodeWith (dataChecks (need .noteOn) b (acc2 assembleNoteOn b)) s

/-- 41_data_bytes.md R145. -/
def execDataPolyKeyPressure (b : Byte) (s : State) : Host.Outcome State Fault Refusal :=
  decodeWith (dataChecks (need .polyKeyPressure) b (acc2 assemblePolyKeyPressure b)) s

/-- 41_data_bytes.md R146. -/
def execDataControlChange (b : Byte) (s : State) : Host.Outcome State Fault Refusal :=
  decodeWith (dataChecks (need .controlChange) b (acc2 assembleControlChange b)) s

/-- 41_data_bytes.md R148. -/
def execDataPitchBend (b : Byte) (s : State) : Host.Outcome State Fault Refusal :=
  decodeWith (dataChecks (need .pitchBend) b (acc2 assemblePitchBend b)) s

/-- 41_data_bytes.md R149, under both values of SPP_RS (assumption log 7). -/
def execDataSongPositionPointer (b : Byte) (s : State) : Host.Outcome State Fault Refusal :=
  decodeWith (dataChecks (need .songPositionPointer) b
    (fun p => sppEnd s.params.sppRs (acc2 assembleSongPositionPointer b p))) s

/-! ## One-data-byte kinds (R151-R155) -/

/-- 41_data_bytes.md R152. -/
def execDataProgramChange (b : Byte) (s : State) : Host.Outcome State Fault Refusal :=
  decodeWith (dataChecks (need .programChange) b (oneKeep assembleProgramChange b)) s

/-- 41_data_bytes.md R153. -/
def execDataChannelPressure (b : Byte) (s : State) : Host.Outcome State Fault Refusal :=
  decodeWith (dataChecks (need .channelPressure) b (oneKeep assembleChannelPressure b)) s

/-- 41_data_bytes.md R154. -/
def execDataSongSelect (b : Byte) (s : State) : Host.Outcome State Fault Refusal :=
  decodeWith (dataChecks (need .songSelect) b (oneClear assembleSongSelect b)) s

/-- 41_data_bytes.md R155. -/
def execDataMtcQuarterFrame (b : Byte) (s : State) : Host.Outcome State Fault Refusal :=
  decodeWith (dataChecks (need .mtcQuarterFrame) b (oneClear assembleMtcQuarterFrame b)) s

/-! ## Kinds that take no data byte (R156, R157, R159): the guard of R141 takes the byte -/

/-- 41_data_bytes.md R156. -/
def execDataSysex (b : Byte) (s : State) : Host.Outcome State Fault Refusal :=
  decodeWith (dataChecks (need .sysexStart) b overflowGuard) s

/-- 41_data_bytes.md R157. -/
def execDataNone (b : Byte) (s : State) : Host.Outcome State Fault Refusal :=
  decodeWith (dataChecks (need .none) b overflowGuard) s

/-- 41_data_bytes.md R159. -/
def execDataOther (b : Byte) (s : State) : Host.Outcome State Fault Refusal :=
  decodeWith (dataChecks 0 b overflowGuard) s

end Sys2Proof.Machine
end

