-- ==== Sys2Proof/Machine/HostOps.lean ====
section
/-! DEFINITION. The meanings of the five host operations (42_host_operations.md R180-R186). DECODE is written from the
listings R100, R101 and R140 and shares their common actions with the rows; that it does what the row of its byte does
is a statement about the model, not its definition (assumption log 28). -/

namespace Sys2Proof.Machine

/-- 42_host_operations.md R181. -/
def execInit (s : State) : Host.Outcome State Fault Refusal := reinit s

/-- 42_host_operations.md R182: "identical effect to `init`". -/
def execReset (s : State) : Host.Outcome State Fault Refusal := reinit s

/-- 42_host_operations.md R183; refused before the first init (70_reset_and_hazards.md R235). -/
def execSetac (c : ChanCode) (s : State) : Host.Outcome State Fault Refusal :=
  if s.initialised then .next { s.quiet with parser := writeActive c s.parser } else .refused .beforeInit

/-- 42_host_operations.md R184; refused before the first init (70_reset_and_hazards.md R235). -/
def execGetac (s : State) : Host.Outcome State Fault Refusal :=
  if s.initialised then .next { s.quiet with ret := some (readActive s.parser) } else .refused .beforeInit

/-- A status step: the rule of the row STATUS_MAP gives the byte (40_status_bytes.md R101). -/
def statusStep (m : List MapRow) (b : Byte) (p : Parser) : Reply :=
  match lookupStatus m b with
  | .noteOff => cvStatus .noteOff (lowNibble b) p
  | .noteOn => cvStatus .noteOn (lowNibble b) p
  | .polyKeyPressure => cvStatus .polyKeyPressure (lowNibble b) p
  | .controlChange => cvStatus .controlChange (lowNibble b) p
  | .programChange => cvStatus .programChange (lowNibble b) p
  | .channelPressure => cvStatus .channelPressure (lowNibble b) p
  | .pitchBend => cvStatus .pitchBend (lowNibble b) p
  | .sysexStart => sysexStatus p
  | .mtcQuarterFrame => scPayloadStatus .mtcQuarterFrame p
  | .songPositionPointer => scPayloadStatus .songPositionPointer p
  | .songSelect => scPayloadStatus .songSelect p
  | .tuneRequest => scBareStatus .tuneRequest p
  | .endOfExclusive => scBareStatus .endOfExclusive p
  | .timingClock => rtStatus .timingClock p
  | .start => rtStatus .start p
  | .cont => rtStatus .cont p
  | .stop => rtStatus .stop p
  | .activeSense => rtStatus .activeSense p
  | .systemReset => rtStatus .systemReset p
  | .undefF4 | .undefF5 | .undefF9 | .undefFD => undefStatus p

/-- The routing by `pk` of a data byte the checks let through (41_data_bytes.md R140, R142-R155). A kind that needs no
byte does not get here: the guard has taken it (R156, R157, R159). -/
def routeData (sppRs : Bool) (b : Byte) (p : Parser) : Reply :=
  match p.pk with
  | .noteOff => acc2 assembleNoteOff b p
  | .noteOn => acc2 assembleNoteOn b p
  | .polyKeyPressure => acc2 assemblePolyKeyPressure b p
  | .controlChange => acc2 assembleControlChange b p
  | .pitchBend => acc2 assemblePitchBend b p
  | .songPositionPointer => sppEnd sppRs (acc2 assembleSongPositionPointer b p)
  | .programChange => oneKeep assembleProgramChange b p
  | .channelPressure => oneKeep assembleChannelPressure b p
  | .songSelect => oneClear assembleSongSelect b p
  | .mtcQuarterFrame => oneClear assembleMtcQuarterFrame b p
  | _ => overflowGuard p

/-- `DATA_STEP(b)` (41_data_bytes.md R140). -/
def dataStep (sppRs : Bool) (b : Byte) (p : Parser) : Reply :=
  dataChecks (need p.pk) b (routeData sppRs b) p

/-- The transition of one byte: `(state, byte)` to `(next state, result)` (40_status_bytes.md R100;
42_host_operations.md R185). -/
def parseByte (ps : Params) (b : Byte) (p : Parser) : Reply :=
  if isStatusByte b then statusStep ps.statusMap b p else dataStep ps.sppRs b p

/-- 42_host_operations.md R185. -/
def execDecode (b : Byte) (s : State) : Host.Outcome State Fault Refusal :=
  decodeWith (parseByte s.params b) s

end Sys2Proof.Machine
end

