-- ==== Sys2Proof/Machine/StatusBytes.lean ====
section
/-! DEFINITION. The meanings of the status bytes, one per row of the opcode table (40_status_bytes.md). -/

namespace Sys2Proof.Machine

/-! ## Channel voice (R102-R109) -/

/-- 40_status_bytes.md R103. -/
def execStNoteOff (c : Nibble) (s : State) : Host.Outcome State Fault Refusal :=
  decodeWith (cvStatus .noteOff c) s

/-- 40_status_bytes.md R104. -/
def execStNoteOn (c : Nibble) (s : State) : Host.Outcome State Fault Refusal :=
  decodeWith (cvStatus .noteOn c) s

/-- 40_status_bytes.md R105. -/
def execStPolyKeyPressure (c : Nibble) (s : State) : Host.Outcome State Fault Refusal :=
  decodeWith (cvStatus .polyKeyPressure c) s

/-- 40_status_bytes.md R106. -/
def execStControlChange (c : Nibble) (s : State) : Host.Outcome State Fault Refusal :=
  decodeWith (cvStatus .controlChange c) s

/-- 40_status_bytes.md R107. -/
def execStProgramChange (c : Nibble) (s : State) : Host.Outcome State Fault Refusal :=
  decodeWith (cvStatus .programChange c) s

/-- 40_status_bytes.md R108. -/
def execStChannelPressure (c : Nibble) (s : State) : Host.Outcome State Fault Refusal :=
  decodeWith (cvStatus .channelPressure c) s

/-- 40_status_bytes.md R109. -/
def execStPitchBend (c : Nibble) (s : State) : Host.Outcome State Fault Refusal :=
  decodeWith (cvStatus .pitchBend c) s

/-! ## SysEx start and system common (R110-R116) -/

/-- 40_status_bytes.md R111; the message's channel and the write of `pch` are the spec's D9 (assumption log 11). -/
def execStSysexStart (s : State) : Host.Outcome State Fault Refusal :=
  decodeWith sysexStatus s

/-- 40_status_bytes.md R112. -/
def execStMtcQuarterFrame (s : State) : Host.Outcome State Fault Refusal :=
  decodeWith (scPayloadStatus .mtcQuarterFrame) s

/-- 40_status_bytes.md R113. -/
def execStSongPositionPointer (s : State) : Host.Outcome State Fault Refusal :=
  decodeWith (scPayloadStatus .songPositionPointer) s

/-- 40_status_bytes.md R114. -/
def execStSongSelect (s : State) : Host.Outcome State Fault Refusal :=
  decodeWith (scPayloadStatus .songSelect) s

/-- 40_status_bytes.md R115; the writes of `pch` and `cnt` are the spec's D10 (assumption log 12). -/
def execStTuneRequest (s : State) : Host.Outcome State Fault Refusal :=
  decodeWith (scBareStatus .tuneRequest) s

/-- 40_status_bytes.md R116; the writes of `pch` and `cnt` are the spec's D10 (assumption log 12). -/
def execStEndOfExclusive (s : State) : Host.Outcome State Fault Refusal :=
  decodeWith (scBareStatus .endOfExclusive) s

/-! ## System real-time (R117-R123) -/

/-- 40_status_bytes.md R118. -/
def execRtTimingClock (s : State) : Host.Outcome State Fault Refusal :=
  decodeWith (rtStatus .timingClock) s

/-- 40_status_bytes.md R119. -/
def execRtStart (s : State) : Host.Outcome State Fault Refusal :=
  decodeWith (rtStatus .start) s

/-- 40_status_bytes.md R120. -/
def execRtContinue (s : State) : Host.Outcome State Fault Refusal :=
  decodeWith (rtStatus .cont) s

/-- 40_status_bytes.md R121. -/
def execRtStop (s : State) : Host.Outcome State Fault Refusal :=
  decodeWith (rtStatus .stop) s

/-- 40_status_bytes.md R122. -/
def execRtActiveSense (s : State) : Host.Outcome State Fault Refusal :=
  decodeWith (rtStatus .activeSense) s

/-- 40_status_bytes.md R123: the byte is reported and does not reset the block. -/
def execRtSystemReset (s : State) : Host.Outcome State Fault Refusal :=
  decodeWith (rtStatus .systemReset) s

/-! ## Undefined status bytes (R124-R128) -/

/-- 40_status_bytes.md R125. -/
def execUndefF4 (s : State) : Host.Outcome State Fault Refusal :=
  decodeWith undefStatus s

/-- 40_status_bytes.md R126. -/
def execUndefF5 (s : State) : Host.Outcome State Fault Refusal :=
  decodeWith undefStatus s

/-- 40_status_bytes.md R127. -/
def execUndefF9 (s : State) : Host.Outcome State Fault Refusal :=
  decodeWith undefStatus s

/-- 40_status_bytes.md R128. -/
def execUndefFD (s : State) : Host.Outcome State Fault Refusal :=
  decodeWith undefStatus s

end Sys2Proof.Machine
end

