-- ==== Sys2Proof/Machine/Dispatch.lean ====
section
/-! DEFINITION. What each instruction does: one arm per row of spec/opcode_table.json, each one call of its meaning. -/

namespace Sys2Proof.Machine

def exec (i : Instr) (s : State) : Host.Outcome State Fault Refusal :=
  match i with
  | .stNoteOff c => Sys2Proof.Machine.execStNoteOff c s
  | .stNoteOn c => Sys2Proof.Machine.execStNoteOn c s
  | .stPolyKeyPressure c => Sys2Proof.Machine.execStPolyKeyPressure c s
  | .stControlChange c => Sys2Proof.Machine.execStControlChange c s
  | .stProgramChange c => Sys2Proof.Machine.execStProgramChange c s
  | .stChannelPressure c => Sys2Proof.Machine.execStChannelPressure c s
  | .stPitchBend c => Sys2Proof.Machine.execStPitchBend c s
  | .stSysexStart => Sys2Proof.Machine.execStSysexStart s
  | .stMtcQuarterFrame => Sys2Proof.Machine.execStMtcQuarterFrame s
  | .stSongPositionPointer => Sys2Proof.Machine.execStSongPositionPointer s
  | .stSongSelect => Sys2Proof.Machine.execStSongSelect s
  | .undefF4 => Sys2Proof.Machine.execUndefF4 s
  | .undefF5 => Sys2Proof.Machine.execUndefF5 s
  | .stTuneRequest => Sys2Proof.Machine.execStTuneRequest s
  | .stEndOfExclusive => Sys2Proof.Machine.execStEndOfExclusive s
  | .rtTimingClock => Sys2Proof.Machine.execRtTimingClock s
  | .undefF9 => Sys2Proof.Machine.execUndefF9 s
  | .rtStart => Sys2Proof.Machine.execRtStart s
  | .rtContinue => Sys2Proof.Machine.execRtContinue s
  | .rtStop => Sys2Proof.Machine.execRtStop s
  | .undefFD => Sys2Proof.Machine.execUndefFD s
  | .rtActiveSense => Sys2Proof.Machine.execRtActiveSense s
  | .rtSystemReset => Sys2Proof.Machine.execRtSystemReset s
  | .dataNoteOff b => Sys2Proof.Machine.execDataNoteOff b s
  | .dataNoteOn b => Sys2Proof.Machine.execDataNoteOn b s
  | .dataPolyKeyPressure b => Sys2Proof.Machine.execDataPolyKeyPressure b s
  | .dataControlChange b => Sys2Proof.Machine.execDataControlChange b s
  | .dataPitchBend b => Sys2Proof.Machine.execDataPitchBend b s
  | .dataSongPositionPointer b => Sys2Proof.Machine.execDataSongPositionPointer b s
  | .dataProgramChange b => Sys2Proof.Machine.execDataProgramChange b s
  | .dataChannelPressure b => Sys2Proof.Machine.execDataChannelPressure b s
  | .dataSongSelect b => Sys2Proof.Machine.execDataSongSelect b s
  | .dataMtcQuarterFrame b => Sys2Proof.Machine.execDataMtcQuarterFrame b s
  | .dataSysex b => Sys2Proof.Machine.execDataSysex b s
  | .dataNone b => Sys2Proof.Machine.execDataNone b s
  | .dataOther b => Sys2Proof.Machine.execDataOther b s
  | .init => Sys2Proof.Machine.execInit s
  | .reset => Sys2Proof.Machine.execReset s
  | .setac c => Sys2Proof.Machine.execSetac c s
  | .getac => Sys2Proof.Machine.execGetac s
  | .decode b => Sys2Proof.Machine.execDecode b s

end Sys2Proof.Machine
end

