-- ==== Sys2Proof/Machine/Activation.lean ====
section
/-! DEFINITION. One activation of the ports: which operations it performs and in what order (42_host_operations.md
R180, R187, R190), and what the step around them adds. -/

namespace Sys2Proof.Machine

/-- The operation of one strobe, if the strobe is set. -/
def strobe (on : Bool) (i : Instr) (s : State) : Host.Outcome State Fault Refusal :=
  if on then exec i s else .next s

/-- One activation (42_host_operations.md R190): init or reset alone; otherwise set_active_channel and decode, each if
its strobe is set. A read of `ac_rdata` gives `ach` from before the step (R187). -/
def activate (a : Activation) (s : State) : Host.Outcome State Fault Refusal :=
  if a.opInit then exec .init s
  else if a.opReset then exec .reset s
  else
    andThen (strobe a.acRead .getac s.quiet) fun read =>
    andThen (strobe a.acWe (.setac a.acWdata) read) fun written =>
    andThen (strobe a.inValid (decodeByte s.params.statusMap s.parser.pk a.inByte) written) fun decoded =>
    .next { decoded with ret := read.ret }

/-- What a step adds to the operations of its activation: `ac_rdata` shows `ach` from before the step
(42_host_operations.md R187, R190), and the model's count of steps advances (assumption log 19). -/
def settle (before : State) (o : Host.Outcome State Fault Refusal) : Host.Outcome State Fault Refusal :=
  andThen o fun t => .next { t with acRdata := chanCode (readActive before.parser), tick := before.tick + 1 }

/-- One step of the block on the host's next input: with none pending it is a step with no strobe, in which the block
holds its state and reports nothing (60_exceptions.md R217, 42_host_operations.md R188; assumption log 2); two unsynchronised hosts are refused (70_reset_and_hazards.md R243). -/
def takeInput (s : State) : Host.Outcome State Fault Refusal :=
  match s.input with
  | [] => settle s (activate {} s)
  | .clash _ _ :: _ => .refused .unsynchronisedHosts
  | .one a :: rest => settle s (activate a { s with input := rest })

end Sys2Proof.Machine
end

