-- ==== Sys2Proof/Machine/Step.lean ====
section
/-! DEFINITION. One step of the machine, and where a step finds its next instruction. -/

namespace Sys2Proof.Machine

/-- One step: the block takes the host's next activation (42_host_operations.md R180; 20_memory.md R57, R61). -/
def step (s : State) : Host.Outcome State Fault Refusal := takeInput s

/-- The state whose next step decodes the byte `w`: the block fetches nothing (10_state.md R21), so the byte is put at
the head of what the host hands it (assumption log 1). No instruction is longer than a byte (30_encoding.md R70). -/
def State.withFetchWord (s : State) (nbits w : Nat) : State :=
  { s with input := .one (byteActivation (BitVec.ofNat 8 (w % 2 ^ nbits))) :: s.input }

end Sys2Proof.Machine
end

