-- ==== Sys2Proof/Machine/Flags.lean ====
section
/-! DEFINITION. The block has no flags (10_state.md R22). The only status a step reports is the result kind, NONE or
the kind of the completed message (R33), with its 5-bit code (R31). -/

namespace Sys2Proof.Machine

/-- `kind(M)`: the kind named by the message's constructor (10_state.md R31, R33). -/
def Payload.kind : Payload → Kind
  | .noteOff _ _ => .noteOff
  | .noteOn _ _ => .noteOn
  | .polyKeyPressure _ _ => .polyKeyPressure
  | .controlChange _ _ => .controlChange
  | .allSoundOff _ _ => .allSoundOff
  | .resetAllControllers _ _ => .resetAllControllers
  | .localControl _ _ => .localControl
  | .allNotesOff _ _ => .allNotesOff
  | .omniOff _ _ => .omniOff
  | .omniOn _ _ => .omniOn
  | .monoOn _ _ => .monoOn
  | .polyOn _ _ => .polyOn
  | .programChange _ => .programChange
  | .channelPressure _ => .channelPressure
  | .pitchBend _ => .pitchBend
  | .sysExStart => .sysexStart
  | .mtcQuarterFrame _ _ => .mtcQuarterFrame
  | .songPositionPointer _ => .songPositionPointer
  | .songSelect _ => .songSelect
  | .tuneRequest => .tuneRequest
  | .endOfExclusive => .endOfExclusive
  | .timingClock => .timingClock
  | .start => .start
  | .cont => .cont
  | .stop => .stop
  | .activeSense => .activeSense
  | .systemReset => .systemReset

/-- The result kind of a decode step: NONE, or the kind of the message it completed (10_state.md R33). -/
def resultKind (m : Option Message) : Kind :=
  match m with
  | some m => m.payload.kind
  | none => .none

/-- The 5-bit code of a kind (10_state.md R31). -/
def kindCode : Kind → BitVec 5
  | .none => 0
  | .noteOff => 1
  | .noteOn => 2
  | .polyKeyPressure => 3
  | .controlChange => 4
  | .programChange => 5
  | .channelPressure => 6
  | .pitchBend => 7
  | .allSoundOff => 8
  | .resetAllControllers => 9
  | .localControl => 10
  | .allNotesOff => 11
  | .omniOff => 12
  | .omniOn => 13
  | .monoOn => 14
  | .polyOn => 15
  | .sysexStart => 16
  | .mtcQuarterFrame => 17
  | .songPositionPointer => 18
  | .songSelect => 19
  | .tuneRequest => 20
  | .endOfExclusive => 21
  | .timingClock => 22
  | .start => 23
  | .cont => 24
  | .stop => 25
  | .activeSense => 26
  | .systemReset => 27
  | .unused n => 0b111#3 ++ n

/-- The kind a 5-bit code names; every code of the register is one (10_state.md R31). -/
def kindOfCode (code : BitVec 5) : Kind :=
  match code.toNat with
  | 0 => .none
  | 1 => .noteOff
  | 2 => .noteOn
  | 3 => .polyKeyPressure
  | 4 => .controlChange
  | 5 => .programChange
  | 6 => .channelPressure
  | 7 => .pitchBend
  | 8 => .allSoundOff
  | 9 => .resetAllControllers
  | 10 => .localControl
  | 11 => .allNotesOff
  | 12 => .omniOff
  | 13 => .omniOn
  | 14 => .monoOn
  | 15 => .polyOn
  | 16 => .sysexStart
  | 17 => .mtcQuarterFrame
  | 18 => .songPositionPointer
  | 19 => .songSelect
  | 20 => .tuneRequest
  | 21 => .endOfExclusive
  | 22 => .timingClock
  | 23 => .start
  | 24 => .cont
  | 25 => .stop
  | 26 => .activeSense
  | 27 => .systemReset
  | _ => .unused (code.extractLsb' 0 2)

end Sys2Proof.Machine
end

