-- ==== Sys2Proof/Machine/Ports.lean ====
section
/-! DEFINITION. The output ports as a view of the last step's results (42_host_operations.md R187-R189). A port the
spec leaves unspecified shows a free value of that step (R188, R189; 93_implementation_defined.md U8, U9). -/

namespace Sys2Proof.Machine

/-- The output ports (42_host_operations.md R187). -/
structure PortOut where
  acRdata     : ChanCode
  outValid    : Bool
  outKind     : BitVec 5
  outCh       : ChanCode
  outF1       : Data7
  outF2       : Data7
  outV14      : Value14
  outMtcType  : Nibble
  outMtcValue : Nibble
deriving DecidableEq, Repr

/-- `out_f1` of a kind that has it (42_host_operations.md R189). -/
def Payload.f1 : Payload → Option Data7
  | .noteOff x _ | .noteOn x _ | .polyKeyPressure x _ | .controlChange x _ | .allSoundOff x _
  | .resetAllControllers x _ | .localControl x _ | .allNotesOff x _ | .omniOff x _ | .omniOn x _ | .monoOn x _
  | .polyOn x _ | .programChange x | .channelPressure x | .songSelect x => some x
  | .pitchBend _ | .sysExStart | .mtcQuarterFrame _ _ | .songPositionPointer _ | .tuneRequest | .endOfExclusive
  | .timingClock | .start | .cont | .stop | .activeSense | .systemReset => none

/-- `out_f2` of a kind that has it (42_host_operations.md R189). -/
def Payload.f2 : Payload → Option Data7
  | .noteOff _ y | .noteOn _ y | .polyKeyPressure _ y | .controlChange _ y | .allSoundOff _ y
  | .resetAllControllers _ y | .localControl _ y | .allNotesOff _ y | .omniOff _ y | .omniOn _ y | .monoOn _ y
  | .polyOn _ y => some y
  | .programChange _ | .channelPressure _ | .songSelect _ | .pitchBend _ | .sysExStart | .mtcQuarterFrame _ _
  | .songPositionPointer _ | .tuneRequest | .endOfExclusive | .timingClock | .start | .cont | .stop | .activeSense
  | .systemReset => none

/-- `out_v14` of a kind that has it (42_host_operations.md R189). -/
def Payload.value14 : Payload → Option Value14
  | .pitchBend v | .songPositionPointer v => some v
  | _ => none

/-- `out_mtc_type` and `out_mtc_value` of a kind that has them (42_host_operations.md R189). -/
def Payload.mtc : Payload → Option (Nibble × Nibble)
  | .mtcQuarterFrame t v => some (t, v)
  | _ => none

/-- The output ports of the step that led to `s`. -/
def State.ports (s : State) : PortOut :=
  let body := s.result.map (·.payload)
  { acRdata := s.acRdata
    outValid := s.result.isSome
    outKind := kindCode (resultKind s.result)
    outCh := (s.result.map (fun m => chanCode m.ch)).getD (Config.freeCh s.tick)
    outF1 := (body.bind Payload.f1).getD (Config.freeF1 s.tick)
    outF2 := (body.bind Payload.f2).getD (Config.freeF2 s.tick)
    outV14 := (body.bind Payload.value14).getD (Config.freeV14 s.tick)
    outMtcType := ((body.bind Payload.mtc).map Prod.fst).getD (Config.freeMtcType s.tick)
    outMtcValue := ((body.bind Payload.mtc).map Prod.snd).getD (Config.freeMtcValue s.tick) }

end Sys2Proof.Machine
end

