-- ==== Sys2Proof/Safety.lean ====
section
/-! DEFINITION. The terms claims are stated in: the invariant of reachable states (10_state.md R35), runs of host
operations and what they show (42_host_operations.md R193), and the classes of status rows (30_encoding.md R75). -/

namespace Sys2Proof

/-- The `format` column of the opcode table (30_encoding.md R85). -/
inductive RowFormat where
  | status | data | host
deriving DecidableEq, Repr

/-- The format of an instruction's row (30_encoding.md R85). -/
def Instr.format : Instr → RowFormat
  | .stNoteOff _ | .stNoteOn _ | .stPolyKeyPressure _ | .stControlChange _ | .stProgramChange _
  | .stChannelPressure _ | .stPitchBend _ | .stSysexStart | .stMtcQuarterFrame | .stSongPositionPointer
  | .stSongSelect | .undefF4 | .undefF5 | .stTuneRequest | .stEndOfExclusive | .rtTimingClock | .undefF9
  | .rtStart | .rtContinue | .rtStop | .undefFD | .rtActiveSense | .rtSystemReset => .status
  | .dataNoteOff _ | .dataNoteOn _ | .dataPolyKeyPressure _ | .dataControlChange _ | .dataPitchBend _
  | .dataSongPositionPointer _ | .dataProgramChange _ | .dataChannelPressure _ | .dataSongSelect _
  | .dataMtcQuarterFrame _ | .dataSysex _ | .dataNone _ | .dataOther _ => .data
  | .init | .reset | .setac _ | .getac | .decode _ => .host

/-- The message of a real-time row, none for the other classes (30_encoding.md R75, 40_status_bytes.md R117). -/
def StatusRow.realTime : StatusRow → Option Machine.Payload
  | .timingClock => some .timingClock
  | .start => some .start
  | .cont => some .cont
  | .stop => some .stop
  | .activeSense => some .activeSense
  | .systemReset => some .systemReset
  | .noteOff | .noteOn | .polyKeyPressure | .controlChange | .programChange | .channelPressure | .pitchBend
  | .sysexStart | .mtcQuarterFrame | .songPositionPointer | .songSelect | .undefF4 | .undefF5 | .tuneRequest
  | .endOfExclusive | .undefF9 | .undefFD => none

/-- The rows of class UNDEF (30_encoding.md R75). -/
def StatusRow.undefined : StatusRow → Bool
  | .undefF4 | .undefF5 | .undefF9 | .undefFD => true
  | .noteOff | .noteOn | .polyKeyPressure | .controlChange | .programChange | .channelPressure | .pitchBend
  | .sysexStart | .mtcQuarterFrame | .songPositionPointer | .songSelect | .tuneRequest | .endOfExclusive
  | .timingClock | .start | .cont | .stop | .activeSense | .systemReset => false

namespace Machine

/-! ## The invariant of reachable states -/

/-- The channel voice kinds (30_encoding.md R75; 10_state.md R35 INV3). -/
def channelVoiceKinds : List Kind :=
  [.noteOff, .noteOn, .polyKeyPressure, .controlChange, .programChange, .channelPressure, .pitchBend]

/-- The values `pk` can hold in a reachable state (10_state.md R24). -/
def reachableKinds : List Kind :=
  .none :: channelVoiceKinds ++ [.sysexStart, .mtcQuarterFrame, .songPositionPointer, .songSelect]

/-- INV1-INV5 of 10_state.md R35. -/
structure Parser.Inv (p : Parser) : Prop where
  /-- INV1. -/
  kind : p.pk ∈ reachableKinds
  /-- INV2, for the kinds that need two bytes. -/
  countOfTwo : need p.pk = 2 → p.cnt = 0 ∨ p.cnt = 1
  /-- INV2, for the others. -/
  countOfOthers : need p.pk ≠ 2 → p.cnt = 0
  /-- INV3, for channel voice kinds: `pch` is a channel. -/
  channelOfVoice : p.pk ∈ channelVoiceKinds → p.pch.msb = false
  /-- INV3, for the others: `pch` is None. -/
  channelOfOthers : p.pk ∉ channelVoiceKinds → p.pch = 0b10000
  /-- INV4. -/
  buffer : p.buf0.msb = false ∧ p.buf1.msb = false
  /-- INV5. -/
  active : p.ach.msb = true → p.ach = 0b10000

/-- A state is safe if its block is in a state of R35. Before the first init nothing is asked of it (R235). -/
def State.Inv (s : State) : Prop := s.initialised = true → s.parser.Inv

/-! ## Rows that share a shape -/

/-- The rows of the two-data-byte kinds, each with its kind and the message its pair assembles (41_data_bytes.md R142). -/
def twoByteRows : List ((Byte → Instr) × Kind × (Channel → Data7 → Data7 → Message)) :=
  [(.dataNoteOff, .noteOff, assembleNoteOff), (.dataNoteOn, .noteOn, assembleNoteOn),
   (.dataPolyKeyPressure, .polyKeyPressure, assemblePolyKeyPressure),
   (.dataControlChange, .controlChange, assembleControlChange), (.dataPitchBend, .pitchBend, assemblePitchBend),
   (.dataSongPositionPointer, .songPositionPointer, assembleSongPositionPointer)]

/-- The data rows, each with the pending kind of its `when` column, DATA_OTHER apart (30_encoding.md R85). -/
def dataRows : List ((Byte → Instr) × Kind) :=
  [(.dataNoteOff, .noteOff), (.dataNoteOn, .noteOn), (.dataPolyKeyPressure, .polyKeyPressure),
   (.dataControlChange, .controlChange), (.dataPitchBend, .pitchBend),
   (.dataSongPositionPointer, .songPositionPointer), (.dataProgramChange, .programChange),
   (.dataChannelPressure, .channelPressure), (.dataSongSelect, .songSelect),
   (.dataMtcQuarterFrame, .mtcQuarterFrame), (.dataSysex, .sysexStart), (.dataNone, .none)]

/-- The state is one in which a decode runs and the pending kind is `k` with `n` data bytes held. -/
def State.pending (s : State) (k : Kind) (n : BitVec 2) : Prop :=
  s.initialised = true ∧ s.parser.pk = k ∧ s.parser.cnt = n

/-! ## Runs -/

/-- What one operation shows: the message of a decode, the value of a get_active_channel (42_host_operations.md R193). -/
structure Shown where
  message : Option Message
  channel : Option Channel
deriving DecidableEq, Repr

/-- What the last step showed. -/
def State.shown (s : State) : Shown := ⟨s.result, s.ret⟩

/-- A run: the host's activations taken one step each, in order, each on the state the one before left (20_memory.md
R61, 42_host_operations.md R193). It gives what each showed and the final state; none if a step is refused. -/
def run : List Activation → State → Option (List Shown × State)
  | [], s => some ([], s)
  | a :: as, s =>
    match step { s with input := [.one a] } with
    | .next t => (run as t).map fun r => (t.shown :: r.1, r.2)
    | .fault _ => none
    | .refused _ => none

/-- `DECODE b1`, `DECODE b2`, ... (30_encoding.md R84, SEND). -/
def sendBytes (bs : List Byte) : List Activation := bs.map byteActivation

/-- What a decode step shows when it ends with the message or with none. -/
def reports (m : Option Message) : Shown := ⟨m, none⟩

/-- The byte is a real-time byte or an undefined status byte under the table: it passes through a message
(40_status_bytes.md R130, R131). -/
def passesThrough (m : List MapRow) (b : Byte) : Bool :=
  isStatusByte b && ((lookupStatus m b).realTime.isSome || (lookupStatus m b).undefined)

/-- What a byte that passes through reports: its real-time message on its own, or nothing (R117, R124). -/
def passingReport (m : List MapRow) (b : Byte) : Shown :=
  reports ((lookupStatus m b).realTime.map fun p => ⟨none, p⟩)

/-- A status byte of the classes CV2, CV1, SYSEX, SCP, SC0: it abandons a partial message (40_status_bytes.md R129). -/
def abandons (m : List MapRow) (b : Byte) : Bool := isStatusByte b && !passesThrough m b

/-- The `(pk, pch, cnt)` part of the block's state. -/
def Parser.triple (p : Parser) : Kind × ChanCode × BitVec 2 := (p.pk, p.pch, p.cnt)

/-- The codes of the channels 0-15 (10_state.md R32). -/
def channelCodes : List ChanCode := (List.range 16).map (BitVec.ofNat 5)

/-- The 198 triples that 95_test_vectors.md P-REACH lists. -/
def reachableTriples : List (Kind × ChanCode × BitVec 2) :=
  ([.noteOff, .noteOn, .polyKeyPressure, .controlChange, .pitchBend].flatMap fun k =>
    channelCodes.flatMap fun c => [(k, c, 0), (k, c, 1)]) ++
  ([.programChange, .channelPressure].flatMap fun k => channelCodes.map fun c => (k, c, 0)) ++
  [(.songPositionPointer, 0b10000, 0), (.songPositionPointer, 0b10000, 1)] ++
  [(.none, 0b10000, 0), (.sysexStart, 0b10000, 0), (.mtcQuarterFrame, 0b10000, 0), (.songSelect, 0b10000, 0)]

end Machine

end Sys2Proof
end

