-- ==== Sys2Proof/Certificates/Slice0/Obligations.lean ====
section
/-! DEFINITION. The statements about the model, from the numbered rules of spec/ (OBLIGATIONS.json lists them). -/

open Sys2Proof Sys2Proof.Machine

/-! ## Encoding -/

/-- Words written out from 30_encoding.md R74, R83 decode to the rows they stand for. -/
def Obligations.SpecWordsDecodeToTheirRows : Prop :=
  decodeByte midiStatusMap .none 0b10000101#8 = .stNoteOff 5 ∧
  decodeByte midiStatusMap .none 0b10011111#8 = .stNoteOn 15 ∧
  decodeByte midiStatusMap .none 0b11000001#8 = .stProgramChange 1 ∧
  decodeByte midiStatusMap .none 0b11110000#8 = .stSysexStart ∧
  decodeByte midiStatusMap .none 0b11110010#8 = .stSongPositionPointer ∧
  decodeByte midiStatusMap .none 0b11110110#8 = .stTuneRequest ∧
  decodeByte midiStatusMap .none 0b11111000#8 = .rtTimingClock ∧
  decodeByte midiStatusMap .none 0b11111101#8 = .undefFD ∧
  decodeByte midiStatusMap .noteOn 0b00111100#8 = .dataNoteOn 60 ∧
  decodeByte midiStatusMap .tuneRequest 0b00000001#8 = .dataOther 1 ∧
  hostOp { acWe := true, acWdata := 0b00100 } = .instr (.setac 4) ∧
  hostOp { inValid := true, inByte := 0xF8 } = .instr (.decode 0xF8)

/-- 30_encoding.md R74 (the values but 0xF0, 0xF6, 0xF7 are PRESUMED, assumption log 6): under the default STATUS_MAP
each status byte selects its row, with the channel in the low four bits, whatever the pending kind. -/
def Obligations.StatusBytesSelectTheirRows : Prop :=
  ∀ pk : Kind,
    (∀ row ∈ [(0x8#4, Instr.stNoteOff), (0x9#4, .stNoteOn), (0xA#4, .stPolyKeyPressure), (0xB#4, .stControlChange),
        (0xC#4, .stProgramChange), (0xD#4, .stChannelPressure), (0xE#4, .stPitchBend)],
      ∀ c : Nibble, decodeByte midiStatusMap pk (row.1 ++ c) = row.2 c) ∧
    (∀ row ∈ [(0xF0#8, Instr.stSysexStart), (0xF1#8, .stMtcQuarterFrame), (0xF2#8, .stSongPositionPointer),
        (0xF3#8, .stSongSelect), (0xF4#8, .undefF4), (0xF5#8, .undefF5), (0xF6#8, .stTuneRequest),
        (0xF7#8, .stEndOfExclusive), (0xF8#8, .rtTimingClock), (0xF9#8, .undefF9), (0xFA#8, .rtStart),
        (0xFB#8, .rtContinue), (0xFC#8, .rtStop), (0xFD#8, .undefFD), (0xFE#8, .rtActiveSense),
        (0xFF#8, .rtSystemReset)],
      decodeByte midiStatusMap pk row.1 = row.2)

/-- 30_encoding.md R74: each status byte fits exactly one row of the default table, and a data byte fits none. -/
def Obligations.StatusBytesFitExactlyOneRow : Prop :=
  ∀ b : Byte, (midiStatusMap.filter (fun r => r.fits b)).length = if isStatusByte b then 1 else 0

/-- Decoding what the encoder wrote gives the instruction back: every instruction but DECODE through the activation
decoder, under every pending kind its row applies to; the five host operations through the operation decoder. -/
def Obligations.EncodedInstructionsDecodeBack : Prop :=
  (∀ (i : Instr) (pk : Kind), i.WellFormed = true → i.appliesUnder pk = true → (∀ b, i ≠ .decode b) →
    decodeActivation midiStatusMap pk (encode i) = .instr i) ∧
  (∀ i : Instr, i.format = .host → hostOp (encode i) = .instr i)

/-- Every byte decodes, under every pending kind, to a well-formed row that applies there and encodes back to it. -/
def Obligations.DecodedBytesEncodeBack : Prop :=
  ∀ (pk : Kind) (b : Byte),
    (decodeByte midiStatusMap pk b).WellFormed = true ∧ (decodeByte midiStatusMap pk b).appliesUnder pk = true ∧
    encodeByte (decodeByte midiStatusMap pk b) = some b

/-- 10_state.md R31 (the spec's decision D6): the kind codes name each code once, and NONE is code 0. -/
def Obligations.KindCodesNameEveryCodeOnce : Prop :=
  (∀ k, kindOfCode (kindCode k) = k) ∧ (∀ c, kindCode (kindOfCode c) = c) ∧ kindCode .none = 0 ∧
  kindCode .pitchBend = 7 ∧ kindCode .allSoundOff = 8 ∧ kindCode .sysexStart = 16 ∧ kindCode .systemReset = 27

/-! ## The step -/

/-- A step on an activation that is one instruction runs exactly that instruction on the state with the activation
taken, and adds what the model's step adds: `ac_rdata` shows the active channel from before, the step is counted. A
DECODE activation runs as the row of its byte and as DECODE alike. -/
def Obligations.StepRunsTheDecodedInstruction : Prop :=
  ∀ (s : State) (a : Activation) (rest : List Input) (i : Instr), s.input = .one a :: rest →
    (decodeActivation s.params.statusMap s.parser.pk a = .instr i ∨ hostOp a = .instr i) →
    (∀ t, exec i { s with input := rest } = .next t →
      step s = .next { t with acRdata := chanCode (chanValue s.parser.ach), tick := s.tick + 1 }) ∧
    (∀ r, exec i { s with input := rest } = .refused r → step s = .refused r)

/-- 60_exceptions.md R217, 42_host_operations.md R188 and 70_reset_and_hazards.md R243 as the model takes them
(assumption log 2, 5): with no operation pending the block holds its state and reports nothing, two unsynchronised
hosts are refused. -/
def Obligations.IdleStepHoldsAndClashIsRefused : Prop :=
  (∀ s : State, s.input = [] →
    step s = .next { s with result := none, ret := none, acRdata := chanCode (chanValue s.parser.ach),
                            tick := s.tick + 1 }) ∧
  (∀ (s : State) (a b : Activation) (rest : List Input), s.input = .clash a b :: rest →
    step s = .refused .unsynchronisedHosts)

/-- 70_reset_and_hazards.md R235, R243 (the spec's decision D33; assumption log 3): before the first init a step that
would decode, set or read the active channel is refused; init and reset run. -/
def Obligations.OnlyInitAndResetRunBeforeInit : Prop :=
  ∀ (s : State) (a : Activation) (rest : List Input), s.input = .one a :: rest → s.initialised = false →
    ((a.opInit || a.opReset) = false → (a.inValid || a.acWe || a.acRead) = true → step s = .refused .beforeInit) ∧
    ((a.opInit || a.opReset) = true → ∃ t, step s = .next t ∧ t.parser = Parser.reset ∧ t.initialised = true)

/-- 42_host_operations.md R190 (the spec's decision D17): init or reset wins alone and the byte is lost; otherwise
set_active_channel and decode both take effect, in whichever order, and a read shows the old channel. -/
def Obligations.StrobesOfOneStepCombine : Prop :=
  ∀ (s : State) (a : Activation) (rest : List Input), s.input = .one a :: rest → s.initialised = true →
    ((a.opInit || a.opReset) = true →
      step s = .next { s with parser := Parser.reset, input := rest, result := none, ret := none,
                              acRdata := chanCode (chanValue s.parser.ach), tick := s.tick + 1 }) ∧
    ((a.opInit || a.opReset) = false → a.acWe = true → a.inValid = true →
      ∃ u v, exec (.decode a.inByte) { s with input := rest } = .next u ∧ exec (.setac a.acWdata) u = .next v ∧
        step s = .next { v with result := u.result,
                                ret := if a.acRead then some (chanValue s.parser.ach) else none,
                                acRdata := chanCode (chanValue s.parser.ach), tick := s.tick + 1 })

/-- 60_exceptions.md R200: after the first init every instruction runs to a next state. -/
def Obligations.EveryInstructionRunsAfterInit : Prop :=
  ∀ (i : Instr) (s : State), s.initialised = true → ∃ t, exec i s = .next t ∧ t.initialised = true

/-! ## Reset -/

/-- 70_reset_and_hazards.md R230, R231, R232 (42_host_operations.md R182): init and reset have one effect, in every
state, and report nothing. The buffer bytes 0x00 in it are the spec's decision D12 (assumption log 13). That init and
also a first reset make the block ready is the model's reading (assumption log 3). -/
def Obligations.InitAndResetHaveOneEffectInEveryState : Prop :=
  ∀ s : State,
    exec .init s = .next { s with parser := Parser.reset, initialised := true, result := none, ret := none } ∧
    exec .reset s = .next { s with parser := Parser.reset, initialised := true, result := none, ret := none }

/-- 10_state.md R29: the reset value of each field (the two buffer bytes are the spec's decision D12), in the machine
after reset. `ret`, `acRdata` and `tick` are the model's choice (assumption log 19, 20) and are left out. -/
def Obligations.ResetValuesOfEveryField : Prop :=
  State.reset.parser = { pk := .none, pch := 0b10000, ach := 0b10000, buf0 := 0x00, buf1 := 0x00, cnt := 0 } ∧
  Parser.reset = State.reset.parser ∧ State.reset.initialised = true ∧ State.reset.params.sppRs = true ∧
  State.reset.params.statusMap = midiStatusMap ∧ State.reset.result = none

/-- 70_reset_and_hazards.md R237: reset and then any activations shows what init and then the same shows, from any two
states of machines with the same parameters. -/
def Obligations.ResetThenRunIsInitThenRun : Prop :=
  ∀ (as : List Activation) (s s' : State), s.params = s'.params →
    ∃ (shown : List Shown) (t t' : State),
      run ({ opReset := true } :: as) s = some (shown, t) ∧ run ({ opInit := true } :: as) s' = some (shown, t') ∧
      t.parser = t'.parser

/-! ## Status bytes -/

/-- 40_status_bytes.md R102: the whole effect of the seven channel voice status bytes. -/
def Obligations.ChannelVoiceStatusSetsRunningStatus : Prop :=
  ∀ row ∈ [(Instr.stNoteOff, Kind.noteOff), (Instr.stNoteOn, Kind.noteOn),
      (Instr.stPolyKeyPressure, Kind.polyKeyPressure), (Instr.stControlChange, Kind.controlChange),
      (Instr.stProgramChange, Kind.programChange), (Instr.stChannelPressure, Kind.channelPressure),
      (Instr.stPitchBend, Kind.pitchBend)],
    ∀ (c : Nibble) (s : State), s.initialised = true →
      exec (row.1 c) s =
        .next { s with parser := { s.parser with pk := row.2, pch := 0#1 ++ c, cnt := 0 },
                       result := none, ret := none }

/-- 40_status_bytes.md R110, R112-R114 (`cnt <- 0` is the spec's decision D12): the whole effect of the system common
status bytes with a payload. -/
def Obligations.SystemCommonPayloadStatusSetsRunningStatus : Prop :=
  ∀ row ∈ [(Instr.stMtcQuarterFrame, Kind.mtcQuarterFrame),
      (Instr.stSongPositionPointer, Kind.songPositionPointer), (Instr.stSongSelect, Kind.songSelect)],
    ∀ s : State, s.initialised = true →
      exec row.1 s =
        .next { s with parser := { s.parser with pk := row.2, pch := 0b10000, cnt := 0 },
                       result := none, ret := none }

/-- 40_status_bytes.md R111 (the channel of the message and the write of `pch` are the spec's decision D9): the whole
effect of SysEx start. -/
def Obligations.SysExStartCompletesAndOpensSysEx : Prop :=
  ∀ s : State, s.initialised = true →
    exec .stSysexStart s =
      .next { s with parser := { s.parser with pk := .sysexStart, pch := 0b10000, cnt := 0 },
                     result := some ⟨none, .sysExStart⟩, ret := none }

/-- 40_status_bytes.md R115, R116 (the writes of `pch` and `cnt` are the spec's decision D10): the whole effect of Tune
Request and End of Exclusive. -/
def Obligations.TuneRequestAndEndOfExclusiveClearAndComplete : Prop :=
  ∀ row ∈ [(Instr.stTuneRequest, Payload.tuneRequest), (Instr.stEndOfExclusive, Payload.endOfExclusive)],
    ∀ s : State, s.initialised = true →
      exec row.1 s =
        .next { s with parser := { s.parser with pk := .none, pch := 0b10000, cnt := 0 },
                       result := some ⟨none, row.2⟩, ret := none }

/-- 40_status_bytes.md R117: the whole effect of the six real-time bytes; no field is written. -/
def Obligations.RealTimeBytesCompleteAndWriteNothing : Prop :=
  ∀ row ∈ [(Instr.rtTimingClock, Payload.timingClock), (Instr.rtStart, Payload.start),
      (Instr.rtContinue, Payload.cont), (Instr.rtStop, Payload.stop),
      (Instr.rtActiveSense, Payload.activeSense), (Instr.rtSystemReset, Payload.systemReset)],
    ∀ s : State, s.initialised = true → exec row.1 s = .next { s with result := some ⟨none, row.2⟩, ret := none }

/-- 40_status_bytes.md R124: an undefined status byte reports nothing and writes no field. -/
def Obligations.UndefinedStatusBytesAreIgnored : Prop :=
  ∀ i ∈ [Instr.undefF4, .undefF5, .undefF9, .undefFD], ∀ s : State,
    s.initialised = true → exec i s = .next { s with result := none, ret := none }

/-! ## Data bytes -/

/-- 41_data_bytes.md R142: the two steps of a two-data-byte kind. `pk` and `pch` are not written (for Song Position
Pointer under the default SPP_RS). -/
def Obligations.TwoDataByteKindsAccumulateAndComplete : Prop :=
  ∀ row ∈ twoByteRows, ∀ (b : Byte) (s : State), b.toNat ≤ 127 →
    (row.2.1 = .songPositionPointer → s.params.sppRs = true) →
    (s.pending row.2.1 0 →
      exec (row.1 b) s =
        .next { s with parser := { s.parser with buf0 := b, cnt := 1 }, result := none, ret := none }) ∧
    (s.pending row.2.1 1 →
      exec (row.1 b) s =
        .next { s with parser := { s.parser with buf1 := b, cnt := 0 },
                       result := some (row.2.2 (chanValue s.parser.pch) (data7 s.parser.buf0) (data7 b)),
                       ret := none })

/-- 41_data_bytes.md R143, R145: Note Off and Poly Key Pressure, both data bytes. -/
def Obligations.NoteOffAndKeyPressureReportTheirPair : Prop :=
  ∀ row ∈ [(Instr.dataNoteOff, Kind.noteOff, Payload.noteOff),
      (Instr.dataPolyKeyPressure, Kind.polyKeyPressure, Payload.polyKeyPressure)],
    ∀ (b : Byte) (s : State), b.toNat ≤ 127 →
      decodeByte s.params.statusMap row.2.1 b = row.1 b ∧
      (s.pending row.2.1 0 →
        exec (row.1 b) s =
          .next { s with parser := { s.parser with buf0 := b, cnt := 1 }, result := none, ret := none }) ∧
      (s.pending row.2.1 1 →
        exec (row.1 b) s =
          .next { s with parser := { s.parser with buf1 := b, cnt := 0 },
                         result := some ⟨chanValue s.parser.pch, row.2.2 (data7 s.parser.buf0) (data7 b)⟩,
                         ret := none })

/-- 41_data_bytes.md R144: Note On, both data bytes; velocity 0 is reported as Note Off and `pk` stays NOTE_ON. -/
def Obligations.NoteOnWithVelocityZeroIsReportedAsNoteOff : Prop :=
  ∀ (b : Byte) (s : State), b.toNat ≤ 127 →
    decodeByte s.params.statusMap .noteOn b = .dataNoteOn b ∧
    (s.pending .noteOn 0 →
      exec (.dataNoteOn b) s =
        .next { s with parser := { s.parser with buf0 := b, cnt := 1 }, result := none, ret := none }) ∧
    (s.pending .noteOn 1 →
      exec (.dataNoteOn b) s =
        .next { s with parser := { s.parser with buf1 := b, cnt := 0 },
                       result := some ⟨chanValue s.parser.pch,
                         if b = 0 then .noteOff (data7 s.parser.buf0) 0 else .noteOn (data7 s.parser.buf0) (data7 b)⟩,
                       ret := none })

/-- 41_data_bytes.md R148: Pitch Bend, both data bytes; the first is the low half of the value. -/
def Obligations.PitchBendReportsTheFourteenBitValue : Prop :=
  ∀ (b : Byte) (s : State), b.toNat ≤ 127 →
    decodeByte s.params.statusMap .pitchBend b = .dataPitchBend b ∧
    (s.pending .pitchBend 0 →
      exec (.dataPitchBend b) s =
        .next { s with parser := { s.parser with buf0 := b, cnt := 1 }, result := none, ret := none }) ∧
    (s.pending .pitchBend 1 →
      exec (.dataPitchBend b) s =
        .next { s with parser := { s.parser with buf1 := b, cnt := 0 },
                       result := some ⟨chanValue s.parser.pch,
                         .pitchBend ((data7 b).zeroExtend 14 <<< 7 ||| (data7 s.parser.buf0).zeroExtend 14)⟩,
                       ret := none })

/-- 41_data_bytes.md R146, R147 (the pairing and `pk` afterwards are the spec's decisions D5, D35): Control Change, both
data bytes, with the eight channel-mode controllers. -/
def Obligations.ControlChangeIsReclassifiedFromController120 : Prop :=
  ∀ (b : Byte) (s : State), b.toNat ≤ 127 →
    decodeByte s.params.statusMap .controlChange b = .dataControlChange b ∧
    (s.pending .controlChange 0 →
      exec (.dataControlChange b) s =
        .next { s with parser := { s.parser with buf0 := b, cnt := 1 }, result := none, ret := none }) ∧
    (s.pending .controlChange 1 →
      ∃ p : Payload,
        exec (.dataControlChange b) s =
          .next { s with parser := { s.parser with buf1 := b, cnt := 0 },
                         result := some ⟨chanValue s.parser.pch, p⟩, ret := none } ∧
        ((data7 s.parser.buf0).toNat < 120 → p = .controlChange (data7 s.parser.buf0) (data7 b)) ∧
        (data7 s.parser.buf0 = 120 → p = .allSoundOff 120 (data7 b)) ∧
        (data7 s.parser.buf0 = 121 → p = .resetAllControllers 121 (data7 b)) ∧
        (data7 s.parser.buf0 = 122 → p = .localControl 122 (data7 b)) ∧
        (data7 s.parser.buf0 = 123 → p = .allNotesOff 123 (data7 b)) ∧
        (data7 s.parser.buf0 = 124 → p = .omniOff 124 (data7 b)) ∧
        (data7 s.parser.buf0 = 125 → p = .omniOn 125 (data7 b)) ∧
        (data7 s.parser.buf0 = 126 → p = .monoOn 126 (data7 b)) ∧
        (data7 s.parser.buf0 = 127 → p = .polyOn 127 (data7 b)))

/-- 41_data_bytes.md R149 (keeping `pk` is the spec's decision D11), under both values of SPP_RS (00_scope.md R11): Song
Position Pointer, both data bytes. -/
def Obligations.SongPositionPointerUnderBothReadings : Prop :=
  ∀ (b : Byte) (s : State), b.toNat ≤ 127 →
    decodeByte s.params.statusMap .songPositionPointer b = .dataSongPositionPointer b ∧
    (s.pending .songPositionPointer 0 →
      exec (.dataSongPositionPointer b) s =
        .next { s with parser := { s.parser with buf0 := b, cnt := 1 }, result := none, ret := none }) ∧
    (s.pending .songPositionPointer 1 →
      exec (.dataSongPositionPointer b) s =
        .next { s with parser := { s.parser with
                         buf1 := b, cnt := 0, pk := if s.params.sppRs then .songPositionPointer else .none },
                       result := some ⟨none, .songPositionPointer
                         ((data7 b).zeroExtend 14 <<< 7 ||| (data7 s.parser.buf0).zeroExtend 14)⟩,
                       ret := none })

/-- 41_data_bytes.md R152, R153: Program Change and Channel Pressure complete on each byte and keep running status. -/
def Obligations.OneByteChannelKindsKeepRunningStatus : Prop :=
  ∀ row ∈ [(Instr.dataProgramChange, Kind.programChange, Payload.programChange),
      (Instr.dataChannelPressure, Kind.channelPressure, Payload.channelPressure)],
    ∀ (b : Byte) (s : State), b.toNat ≤ 127 →
      decodeByte s.params.statusMap row.2.1 b = row.1 b ∧
      (s.pending row.2.1 0 →
        exec (row.1 b) s =
          .next { s with result := some ⟨chanValue s.parser.pch, row.2.2 (data7 b)⟩, ret := none })

/-- 41_data_bytes.md R154, R155: Song Select and MTC Quarter Frame complete on one byte and clear running status. -/
def Obligations.SongSelectAndMtcClearRunningStatus : Prop :=
  ∀ (b : Byte) (s : State), b.toNat ≤ 127 →
    decodeByte s.params.statusMap .songSelect b = .dataSongSelect b ∧
    decodeByte s.params.statusMap .mtcQuarterFrame b = .dataMtcQuarterFrame b ∧
    (s.pending .songSelect 0 →
      exec (.dataSongSelect b) s =
        .next { s with parser := { s.parser with pk := .none }, result := some ⟨none, .songSelect (data7 b)⟩,
                       ret := none }) ∧
    (s.pending .mtcQuarterFrame 0 →
      exec (.dataMtcQuarterFrame b) s =
        .next { s with parser := { s.parser with pk := .none },
                       result := some ⟨none, .mtcQuarterFrame (BitVec.ofNat 4 (b.toNat / 16)) (BitVec.ofNat 4 b.toNat)⟩,
                       ret := none })

/-- 41_data_bytes.md R156, R157: a data byte inside a SysEx, or with no running status, is absorbed. -/
def Obligations.SysExPayloadAndStrayDataAreAbsorbed : Prop :=
  ∀ row ∈ [(Instr.dataSysex, Kind.sysexStart), (Instr.dataNone, Kind.none)],
    ∀ (b : Byte) (s : State), b.toNat ≤ 127 → s.initialised = true → s.parser.pk = row.2 →
      decodeByte s.params.statusMap s.parser.pk b = row.1 b ∧
      exec (row.1 b) s = .next { s with parser := { s.parser with cnt := 0 }, result := none, ret := none }

/-- 41_data_bytes.md R159 (the spec's decision D16): under every other kind code a data byte only clears the count. -/
def Obligations.DataUnderOtherKindsClearsTheCount : Prop :=
  ∀ (b : Byte) (s : State), b.toNat ≤ 127 → s.initialised = true → s.parser.pk ∉ reachableKinds →
    decodeByte s.params.statusMap s.parser.pk b = .dataOther b ∧
    exec (.dataOther b) s = .next { s with parser := { s.parser with cnt := 0 }, result := none, ret := none }

/-- 41_data_bytes.md R141 (the threshold is the spec's decision D15): at or past the bytes its kind needs, a data byte
clears the count and is lost, for every row and for DECODE. -/
def Obligations.OverflowGuardClearsTheCount : Prop :=
  ∀ row ∈ dataRows, ∀ (b : Byte) (s : State), b.toNat ≤ 127 → s.initialised = true → s.parser.pk = row.2 →
    need row.2 ≤ s.parser.cnt.toNat →
    exec (row.1 b) s = .next { s with parser := { s.parser with cnt := 0 }, result := none, ret := none } ∧
    exec (.decode b) s = .next { s with parser := { s.parser with cnt := 0 }, result := none, ret := none }

/-- 41_data_bytes.md R158 (kept by the spec's decision D34): on the data path a byte above 127 reports nothing and
writes no field. No decoded row meets one; the statement is of the rows by themselves. -/
def Obligations.DataPathIgnoresBytesAbove127 : Prop :=
  ∀ (i : Instr) (s : State), i.format = .data → i.WellFormed = false → s.initialised = true →
    exec i s = .next { s with result := none, ret := none }

/-! ## Host operations -/

/-- 40_status_bytes.md R100 (42_host_operations.md R185): DECODE accepts every byte and does what the row its byte
selects does, a status row when bit 7 is set and a data row when it is clear. -/
def Obligations.DecodeDoesWhatItsRowDoes : Prop :=
  ∀ (b : Byte) (s : State), s.initialised = true →
    (b.msb = true → (decodeByte s.params.statusMap s.parser.pk b).format = .status) ∧
    (b.msb = false → (decodeByte s.params.statusMap s.parser.pk b).format = .data) ∧
    exec (.decode b) s = exec (decodeByte s.params.statusMap s.parser.pk b) s ∧
    ∃ t, exec (.decode b) s = .next t

/-- 42_host_operations.md R183: set_active_channel stores a channel or None; a code with bit 4 set is stored as None
(for the codes 17-31 this is the spec's decision D7). -/
def Obligations.SetActiveChannelStoresAChannelOrNone : Prop :=
  ∀ (c : ChanCode) (s : State), s.initialised = true →
    hostOp { acWe := true, acWdata := c } = .instr (.setac c) ∧
    exec (.setac c) s =
      .next { s with parser := { s.parser with
                       ach := if c.msb then 0b10000#5 else 0#1 ++ c.extractLsb' 0 4 },
                     result := none, ret := none }

/-- 42_host_operations.md R184: get_active_channel returns the active channel and writes no field; after init it returns
None; across any decode steps it returns the last value set_active_channel wrote. -/
def Obligations.GetActiveChannelReturnsTheLastValueWritten : Prop :=
  (∀ s : State, s.initialised = true →
    exec .getac s = .next { s with result := none, ret := some (chanValue s.parser.ach) }) ∧
  (∀ (bs : List Byte) (s : State), ∃ (shown : List Shown) (t : State),
    run ({ opInit := true } :: sendBytes bs ++ [encode .getac]) s = some (shown ++ [⟨none, some none⟩], t)) ∧
  (∀ (bs : List Byte) (c : ChanCode) (s : State), s.initialised = true → ∃ (shown : List Shown) (t : State),
    run (encode (.setac c) :: sendBytes bs ++ [encode .getac]) s =
      some (shown ++ [⟨none, some (if c.msb then none else some (c.extractLsb' 0 4))⟩], t))

/-- 20_memory.md R58: init, reset and set_active_channel done twice in a row leave the state they left the first time,
and get_active_channel leaves the block as it was. -/
def Obligations.HostOperationsAreIdempotent : Prop :=
  (∀ i : Instr, i = .init ∨ i = .reset ∨ (∃ c, i = .setac c) →
    ∀ s : State, s.initialised = true → ∃ t, exec i s = .next t ∧ exec i t = .next t) ∧
  (∀ s : State, s.initialised = true → ∃ t, exec .getac s = .next t ∧ t.parser = s.parser ∧ exec .getac t = .next t)

/-- Every instruction leaves alone the parameters, the host's pending operations, the last `ac_rdata` and the count of
steps: they are not the block's to write (00_scope.md R11, R13; assumption log 1, 19). -/
def Obligations.InstructionsLeaveTheSurroundingsAlone : Prop :=
  ∀ (i : Instr) (s t : State), exec i s = .next t →
    t.params = s.params ∧ t.input = s.input ∧ t.acRdata = s.acRdata ∧ t.tick = s.tick

/-- A field changes only by its writers. 10_state.md R23, the column "written by", gives the writers, but for two
clauses: that data bytes of rows other than the two-data-byte ones leave the buffer alone is R27 and the spec's decision
D12 (assumption log 13), and that Song Position Pointer writes `pk` when SPP_RS is false is 00_scope.md R11 and D11
(assumption log 7). -/
def Obligations.FieldsChangeOnlyByTheirWriters : Prop :=
  ∀ (i : Instr) (s t : State), exec i s = .next t →
    (i ∈ [.rtTimingClock, .rtStart, .rtContinue, .rtStop, .rtActiveSense, .rtSystemReset, .undefF4, .undefF5,
          .undefF9, .undefFD, .getac] → t.parser = s.parser) ∧
    (∀ c, i = .setac c → { t.parser with ach := s.parser.ach } = s.parser) ∧
    (i.format ≠ .host → t.parser.ach = s.parser.ach) ∧
    (∀ b, i = .decode b → t.parser.ach = s.parser.ach) ∧
    (i.format = .status → t.parser.buf0 = s.parser.buf0 ∧ t.parser.buf1 = s.parser.buf1) ∧
    (i.format = .data → t.parser.pch = s.parser.pch) ∧
    (i.format = .data → t.parser.pk ≠ s.parser.pk → ∃ b, i = .dataSongSelect b ∨ i = .dataMtcQuarterFrame b ∨
      (i = .dataSongPositionPointer b ∧ s.params.sppRs = false)) ∧
    (i.format = .data → (∀ row ∈ twoByteRows, ∀ b, i ≠ row.1 b) →
      t.parser.buf0 = s.parser.buf0 ∧ t.parser.buf1 = s.parser.buf1)

/-! ## What the ports show -/

/-- 42_host_operations.md R188, R189 (the spec's decisions D2, D13, D14): the ports a result determines. Of an
unspecified port nothing is said. -/
def Obligations.PortsShowTheResult : Prop :=
  (∀ s : State, s.result = none → s.ports.outValid = false ∧ s.ports.outKind = 0) ∧
  (∀ (s : State) (m : Message), s.result = some m →
    s.ports.outValid = true ∧ s.ports.outKind = kindCode m.payload.kind ∧ s.ports.outCh = chanCode m.ch) ∧
  (∀ p ∈ [Payload.noteOff, .noteOn, .polyKeyPressure, .controlChange, .allSoundOff, .resetAllControllers,
      .localControl, .allNotesOff, .omniOff, .omniOn, .monoOn, .polyOn],
    ∀ (s : State) (ch : Channel) (x y : Data7), s.result = some ⟨ch, p x y⟩ →
      s.ports.outF1 = x ∧ s.ports.outF2 = y) ∧
  (∀ p ∈ [Payload.programChange, .channelPressure, .songSelect], ∀ (s : State) (ch : Channel) (x : Data7),
    s.result = some ⟨ch, p x⟩ → s.ports.outF1 = x) ∧
  (∀ p ∈ [Payload.pitchBend, .songPositionPointer], ∀ (s : State) (ch : Channel) (v : Value14),
    s.result = some ⟨ch, p v⟩ → s.ports.outV14 = v) ∧
  (∀ (s : State) (ch : Channel) (x y : Nibble), s.result = some ⟨ch, .mtcQuarterFrame x y⟩ →
    s.ports.outMtcType = x ∧ s.ports.outMtcValue = y)

/-! ## Invariants -/

/-- 10_state.md R35 at reset. -/
def Obligations.ResetMeetsTheBlockInvariant : Prop := State.reset.Inv

/-- 10_state.md R35: every step keeps INV1-INV5, from every state that meets them, under every STATUS_MAP and both
values of SPP_RS. -/
def Obligations.EveryStepKeepsTheBlockInvariant : Prop :=
  ∀ s t : State, s.Inv → step s = .next t → t.Inv

/-- 95_test_vectors.md P-REACH: from reset, under any activations, the triples (pk, pch, cnt) reached are exactly the
198 listed. -/
def Obligations.ReachableTriplesAreTheListed198 : Prop :=
  reachableTriples.length = 198 ∧ reachableTriples.Nodup ∧
  ∀ x : Kind × ChanCode × BitVec 2, x ∈ reachableTriples ↔
    ∃ (as : List Activation) (shown : List Shown) (t : State),
      run as State.reset = some (shown, t) ∧ t.parser.triple = x

/-! ## Runs of bytes -/

/-- 20_memory.md R57, R61 and 70_reset_and_hazards.md R242: after init every finite run of activations completes, one
showing per operation. -/
def Obligations.EveryRunCompletesAfterInit : Prop :=
  ∀ (as : List Activation) (s : State), s.initialised = true →
    ∃ (shown : List Shown) (t : State), run as s = some (shown, t) ∧ shown.length = as.length ∧ t.initialised = true

/-- 40_status_bytes.md R130, R131: real-time and undefined bytes inserted anywhere change neither the other results nor
the state of the block, and report their own message or nothing. That undefined bytes pass through a message is the
spec's reading C1 (assumption log 14). -/
def Obligations.RealTimeAndUndefinedBytesAreTransparent : Prop :=
  ∀ (bs : List Byte) (s : State), s.initialised = true →
    ∃ (shown shown' : List Shown) (t t' : State),
      run (sendBytes bs) s = some (shown, t) ∧
      run (sendBytes (bs.filter fun b => !passesThrough s.params.statusMap b)) s = some (shown', t') ∧
      t.parser = t'.parser ∧
      ((bs.zip shown).filter fun x => !passesThrough s.params.statusMap x.1).map Prod.snd = shown' ∧
      (∀ x ∈ bs.zip shown, passesThrough s.params.statusMap x.1 = true →
        x.2 = passingReport s.params.statusMap x.1)

/-- 40_status_bytes.md R129, 10_state.md R27: from an abandoning status byte on, what a stream reports does not depend
on the pending message, or on anything else the block held, before that byte. -/
def Obligations.AbandoningStatusForgetsThePartialMessage : Prop :=
  ∀ (b : Byte) (bs : List Byte) (s s' : State), s.initialised = true → s'.initialised = true →
    s.params = s'.params → abandons s.params.statusMap b = true →
    ∃ (shown : List Shown) (t t' : State),
      run (sendBytes (b :: bs)) s = some (shown, t) ∧ run (sendBytes (b :: bs)) s' = some (shown, t') ∧
      t.parser.triple = t'.parser.triple

/-- 42_host_operations.md R186: no decode step reads or writes the active channel; two runs that differ in it alone
report the same and leave the same block but for it. -/
def Obligations.ActiveChannelDoesNotReachDecoding : Prop :=
  ∀ (bs : List Byte) (c : ChanCode) (s : State), s.initialised = true →
    ∃ (shown : List Shown) (t t' : State),
      run (sendBytes bs) s = some (shown, t) ∧
      run (sendBytes bs) { s with parser := { s.parser with ach := c } } = some (shown, t') ∧
      t.parser.ach = s.parser.ach ∧ t'.parser = { t.parser with ach := c }

/-- 95_test_vectors.md S1, S2 (41_data_bytes.md R144, 30_encoding.md R78): from every state, each Note On status and
pair reports its channel, note and velocity, and a further pair under running status reports too. -/
def Obligations.NoteOnIsReportedForEveryChannelNoteAndVelocity : Prop :=
  ∀ (c : Nibble) (n v n' v' : Data7) (s : State), s.initialised = true → s.params.statusMap = midiStatusMap →
    ∃ t, run (sendBytes [0x9#4 ++ c, 0#1 ++ n, 0#1 ++ v, 0#1 ++ n', 0#1 ++ v']) s =
        some ([reports none, reports none,
               reports (some ⟨some c, if v = 0 then .noteOff n 0 else .noteOn n v⟩), reports none,
               reports (some ⟨some c, if v' = 0 then .noteOff n' 0 else .noteOn n' v'⟩)], t) ∧
      t.parser.triple = (.noteOn, 0#1 ++ c, 0)

/-- 95_test_vectors.md S6, P-S6 (41_data_bytes.md R146, R147; the pairing is the spec's G3 and D5, assumption log 8):
each channel-mode pair is reported as its own kind on every channel, and the next pair is classified afresh (D35). -/
def Obligations.ChannelModePairsAreReportedOnEveryChannel : Prop :=
  ∀ row ∈ [(120#7, Payload.allSoundOff), (121#7, Payload.resetAllControllers), (122#7, Payload.localControl),
      (123#7, Payload.allNotesOff), (124#7, Payload.omniOff), (125#7, Payload.omniOn), (126#7, Payload.monoOn),
      (127#7, Payload.polyOn)],
    ∀ (c : Nibble) (v n w : Data7) (s : State), s.initialised = true → s.params.statusMap = midiStatusMap →
      n.toNat < 120 →
      ∃ t, run (sendBytes [0xB#4 ++ c, 0#1 ++ row.1, 0#1 ++ v, 0#1 ++ n, 0#1 ++ w]) s =
          some ([reports none, reports none, reports (some ⟨some c, row.2 row.1 v⟩), reports none,
                 reports (some ⟨some c, .controlChange n w⟩)], t) ∧
        t.parser.triple = (.controlChange, 0#1 ++ c, 0)

/-- 95_test_vectors.md P-V14 (41_data_bytes.md R148, R150): each pair of Pitch Bend data bytes reports second * 128 +
first, and every 14-bit value is reported for exactly one pair. -/
def Obligations.PitchBendPairsCoverEveryValueOnce : Prop :=
  (∀ (c : Nibble) (f g : Data7) (s : State), s.initialised = true → s.params.statusMap = midiStatusMap →
    ∃ (t : State) (v : Value14), v.toNat = g.toNat * 128 + f.toNat ∧
      run (sendBytes [0xE#4 ++ c, 0#1 ++ f, 0#1 ++ g]) s =
        some ([reports none, reports none, reports (some ⟨some c, .pitchBend v⟩)], t)) ∧
  (∀ v : Value14, ∃! x : Data7 × Data7, v14 x.1 x.2 = v)

/-- 70_reset_and_hazards.md R234: after init or reset the block has no running status; data bytes are ignored until a
status byte of class CV2, CV1, SYSEX or SCP, and real-time bytes, Tune Request and End of Exclusive are reported. -/
def Obligations.DataBytesAfterResetAreIgnored : Prop :=
  ∀ (bs : List Byte) (s : State) (a : Activation), a = { opInit := true } ∨ a = { opReset := true } →
    s.params.statusMap = midiStatusMap →
    (∀ b ∈ bs, isStatusByte b = true → passesThrough midiStatusMap b = true ∨ b = 0xF6 ∨ b = 0xF7) →
    ∃ t : State,
      run (a :: sendBytes bs) s =
        some (reports none :: bs.map (fun b =>
          if isStatusByte b = false then reports none
          else if b = 0xF6 then reports (some ⟨none, .tuneRequest⟩)
          else if b = 0xF7 then reports (some ⟨none, .endOfExclusive⟩)
          else passingReport midiStatusMap b), t) ∧
      t.parser.pk = .none

/-- 95_test_vectors.md P-SYX, S5 (40_status_bytes.md R111, R116, R117; 41_data_bytes.md R156): inside a SysEx every data
byte is silent, real-time bytes are reported, undefined bytes are silent, the block stays in SysEx; 0xF7 ends it. -/
def Obligations.SysExPayloadIsOpaqueUntilItsEnd : Prop :=
  ∀ (bs : List Byte) (s : State), s.initialised = true → s.params.statusMap = midiStatusMap →
    (∀ b ∈ bs, isStatusByte b = true → passesThrough midiStatusMap b = true) →
    ∃ t u : State,
      run (sendBytes (0xF0 :: bs)) s =
        some (reports (some ⟨none, .sysExStart⟩) ::
          bs.map (fun b => if isStatusByte b then passingReport midiStatusMap b else reports none), t) ∧
      t.parser.triple = (.sysexStart, 0b10000, 0) ∧
      run (sendBytes [0xF7]) t = some ([reports (some ⟨none, .endOfExclusive⟩)], u) ∧
      u.parser.triple = (.none, 0b10000, 0)
end

