-- ==== Sys2Proof/Laws/State.lean ====
section
/-! SUPPORT. One lemma per field of each named update of the state and of the six fields, all true by rfl. -/

namespace Sys2Proof.Machine

/-! ### An operation that reports nothing -/

@[simp] theorem State.quiet_parser (s : State) : (s.quiet).parser = s.parser := rfl
@[simp] theorem State.quiet_initialised (s : State) : (s.quiet).initialised = s.initialised := rfl
@[simp] theorem State.quiet_params (s : State) : (s.quiet).params = s.params := rfl
@[simp] theorem State.quiet_input (s : State) : (s.quiet).input = s.input := rfl
@[simp] theorem State.quiet_result (s : State) : (s.quiet).result = none := rfl
@[simp] theorem State.quiet_ret (s : State) : (s.quiet).ret = none := rfl
@[simp] theorem State.quiet_acRdata (s : State) : (s.quiet).acRdata = s.acRdata := rfl
@[simp] theorem State.quiet_tick (s : State) : (s.quiet).tick = s.tick := rfl

/-! ### A byte put at the head of the input -/

@[simp] theorem State.withFetchWord_parser (s : State) (n w : Nat) : (s.withFetchWord n w).parser = s.parser := rfl
@[simp] theorem State.withFetchWord_initialised (s : State) (n w : Nat) : (s.withFetchWord n w).initialised = s.initialised := rfl
@[simp] theorem State.withFetchWord_params (s : State) (n w : Nat) : (s.withFetchWord n w).params = s.params := rfl
@[simp] theorem State.withFetchWord_input (s : State) (n w : Nat) : (s.withFetchWord n w).input = .one (byteActivation (BitVec.ofNat 8 (w % 2 ^ n))) :: s.input := rfl
@[simp] theorem State.withFetchWord_result (s : State) (n w : Nat) : (s.withFetchWord n w).result = s.result := rfl
@[simp] theorem State.withFetchWord_ret (s : State) (n w : Nat) : (s.withFetchWord n w).ret = s.ret := rfl
@[simp] theorem State.withFetchWord_acRdata (s : State) (n w : Nat) : (s.withFetchWord n w).acRdata = s.acRdata := rfl
@[simp] theorem State.withFetchWord_tick (s : State) (n w : Nat) : (s.withFetchWord n w).tick = s.tick := rfl

/-! ### init and reset -/

@[simp] theorem clearParser_pk (p : Parser) : (clearParser p).pk = .none := rfl
@[simp] theorem clearParser_pch (p : Parser) : (clearParser p).pch = chanCode none := rfl
@[simp] theorem clearParser_ach (p : Parser) : (clearParser p).ach = chanCode none := rfl
@[simp] theorem clearParser_buf0 (p : Parser) : (clearParser p).buf0 = 0 := rfl
@[simp] theorem clearParser_buf1 (p : Parser) : (clearParser p).buf1 = 0 := rfl
@[simp] theorem clearParser_cnt (p : Parser) : (clearParser p).cnt = 0 := rfl

/-! ### set_active_channel -/

@[simp] theorem writeActive_pk (c : ChanCode) (p : Parser) : (writeActive c p).pk = p.pk := rfl
@[simp] theorem writeActive_pch (c : ChanCode) (p : Parser) : (writeActive c p).pch = p.pch := rfl
@[simp] theorem writeActive_ach (c : ChanCode) (p : Parser) : (writeActive c p).ach = chanCode (chanValue c) := rfl
@[simp] theorem writeActive_buf0 (c : ChanCode) (p : Parser) : (writeActive c p).buf0 = p.buf0 := rfl
@[simp] theorem writeActive_buf1 (c : ChanCode) (p : Parser) : (writeActive c p).buf1 = p.buf1 := rfl
@[simp] theorem writeActive_cnt (c : ChanCode) (p : Parser) : (writeActive c p).cnt = p.cnt := rfl

/-! ### Channel voice status -/

@[simp] theorem cvStatus_pk (k : Kind) (c : Nibble) (p : Parser) : (cvStatus k c p).1.pk = k := rfl
@[simp] theorem cvStatus_pch (k : Kind) (c : Nibble) (p : Parser) : (cvStatus k c p).1.pch = chanCode (some c) := rfl
@[simp] theorem cvStatus_ach (k : Kind) (c : Nibble) (p : Parser) : (cvStatus k c p).1.ach = p.ach := rfl
@[simp] theorem cvStatus_buf0 (k : Kind) (c : Nibble) (p : Parser) : (cvStatus k c p).1.buf0 = p.buf0 := rfl
@[simp] theorem cvStatus_buf1 (k : Kind) (c : Nibble) (p : Parser) : (cvStatus k c p).1.buf1 = p.buf1 := rfl
@[simp] theorem cvStatus_cnt (k : Kind) (c : Nibble) (p : Parser) : (cvStatus k c p).1.cnt = 0 := rfl
@[simp] theorem cvStatus_message (k : Kind) (c : Nibble) (p : Parser) : (cvStatus k c p).2 = none := rfl

/-! ### System common status with payload -/

@[simp] theorem scPayloadStatus_pk (k : Kind) (p : Parser) : (scPayloadStatus k p).1.pk = k := rfl
@[simp] theorem scPayloadStatus_pch (k : Kind) (p : Parser) : (scPayloadStatus k p).1.pch = chanCode none := rfl
@[simp] theorem scPayloadStatus_ach (k : Kind) (p : Parser) : (scPayloadStatus k p).1.ach = p.ach := rfl
@[simp] theorem scPayloadStatus_buf0 (k : Kind) (p : Parser) : (scPayloadStatus k p).1.buf0 = p.buf0 := rfl
@[simp] theorem scPayloadStatus_buf1 (k : Kind) (p : Parser) : (scPayloadStatus k p).1.buf1 = p.buf1 := rfl
@[simp] theorem scPayloadStatus_cnt (k : Kind) (p : Parser) : (scPayloadStatus k p).1.cnt = 0 := rfl
@[simp] theorem scPayloadStatus_message (k : Kind) (p : Parser) : (scPayloadStatus k p).2 = none := rfl

/-! ### SysEx start -/

@[simp] theorem sysexStatus_pk (p : Parser) : (sysexStatus p).1.pk = .sysexStart := rfl
@[simp] theorem sysexStatus_pch (p : Parser) : (sysexStatus p).1.pch = chanCode none := rfl
@[simp] theorem sysexStatus_ach (p : Parser) : (sysexStatus p).1.ach = p.ach := rfl
@[simp] theorem sysexStatus_buf0 (p : Parser) : (sysexStatus p).1.buf0 = p.buf0 := rfl
@[simp] theorem sysexStatus_buf1 (p : Parser) : (sysexStatus p).1.buf1 = p.buf1 := rfl
@[simp] theorem sysexStatus_cnt (p : Parser) : (sysexStatus p).1.cnt = 0 := rfl
@[simp] theorem sysexStatus_message (p : Parser) : (sysexStatus p).2 = some ⟨none, .sysExStart⟩ := rfl

/-! ### System common status with no payload -/

@[simp] theorem scBareStatus_pk (m : Payload) (p : Parser) : (scBareStatus m p).1.pk = .none := rfl
@[simp] theorem scBareStatus_pch (m : Payload) (p : Parser) : (scBareStatus m p).1.pch = chanCode none := rfl
@[simp] theorem scBareStatus_ach (m : Payload) (p : Parser) : (scBareStatus m p).1.ach = p.ach := rfl
@[simp] theorem scBareStatus_buf0 (m : Payload) (p : Parser) : (scBareStatus m p).1.buf0 = p.buf0 := rfl
@[simp] theorem scBareStatus_buf1 (m : Payload) (p : Parser) : (scBareStatus m p).1.buf1 = p.buf1 := rfl
@[simp] theorem scBareStatus_cnt (m : Payload) (p : Parser) : (scBareStatus m p).1.cnt = 0 := rfl
@[simp] theorem scBareStatus_message (m : Payload) (p : Parser) : (scBareStatus m p).2 = some ⟨none, m⟩ := rfl

/-! ### The overflow guard -/

@[simp] theorem overflowGuard_pk (p : Parser) : (overflowGuard p).1.pk = p.pk := rfl
@[simp] theorem overflowGuard_pch (p : Parser) : (overflowGuard p).1.pch = p.pch := rfl
@[simp] theorem overflowGuard_ach (p : Parser) : (overflowGuard p).1.ach = p.ach := rfl
@[simp] theorem overflowGuard_buf0 (p : Parser) : (overflowGuard p).1.buf0 = p.buf0 := rfl
@[simp] theorem overflowGuard_buf1 (p : Parser) : (overflowGuard p).1.buf1 = p.buf1 := rfl
@[simp] theorem overflowGuard_cnt (p : Parser) : (overflowGuard p).1.cnt = 0 := rfl
@[simp] theorem overflowGuard_message (p : Parser) : (overflowGuard p).2 = none := rfl

/-! ### One data byte, running status kept -/

@[simp] theorem oneKeep_pk (f : Channel → Byte → Message) (b : Byte) (p : Parser) : (oneKeep f b p).1.pk = p.pk := rfl
@[simp] theorem oneKeep_pch (f : Channel → Byte → Message) (b : Byte) (p : Parser) : (oneKeep f b p).1.pch = p.pch := rfl
@[simp] theorem oneKeep_ach (f : Channel → Byte → Message) (b : Byte) (p : Parser) : (oneKeep f b p).1.ach = p.ach := rfl
@[simp] theorem oneKeep_buf0 (f : Channel → Byte → Message) (b : Byte) (p : Parser) : (oneKeep f b p).1.buf0 = p.buf0 := rfl
@[simp] theorem oneKeep_buf1 (f : Channel → Byte → Message) (b : Byte) (p : Parser) : (oneKeep f b p).1.buf1 = p.buf1 := rfl
@[simp] theorem oneKeep_cnt (f : Channel → Byte → Message) (b : Byte) (p : Parser) : (oneKeep f b p).1.cnt = p.cnt := rfl
@[simp] theorem oneKeep_message (f : Channel → Byte → Message) (b : Byte) (p : Parser) : (oneKeep f b p).2 = some (f (chanValue p.pch) b) := rfl

/-! ### One data byte, running status cleared -/

@[simp] theorem oneClear_pk (f : Channel → Byte → Message) (b : Byte) (p : Parser) : (oneClear f b p).1.pk = .none := rfl
@[simp] theorem oneClear_pch (f : Channel → Byte → Message) (b : Byte) (p : Parser) : (oneClear f b p).1.pch = p.pch := rfl
@[simp] theorem oneClear_ach (f : Channel → Byte → Message) (b : Byte) (p : Parser) : (oneClear f b p).1.ach = p.ach := rfl
@[simp] theorem oneClear_buf0 (f : Channel → Byte → Message) (b : Byte) (p : Parser) : (oneClear f b p).1.buf0 = p.buf0 := rfl
@[simp] theorem oneClear_buf1 (f : Channel → Byte → Message) (b : Byte) (p : Parser) : (oneClear f b p).1.buf1 = p.buf1 := rfl
@[simp] theorem oneClear_cnt (f : Channel → Byte → Message) (b : Byte) (p : Parser) : (oneClear f b p).1.cnt = p.cnt := rfl
@[simp] theorem oneClear_message (f : Channel → Byte → Message) (b : Byte) (p : Parser) : (oneClear f b p).2 = some (f (chanValue p.pch) b) := rfl

end Sys2Proof.Machine
end

