-- ==== Sys2Proof/Laws/Ops.lean ====
section
/-! SUPPORT. What each shared operation can do, said once: the provers cite these lemmas instead of unfolding. -/

namespace Sys2Proof.Machine

/-! ## Channel codes and the 14-bit value -/

@[simp] theorem chanValue_chanCode (c : Channel) : chanValue (chanCode c) = c := by
  cases c with
  | none => rfl
  | some c => revert c; decide

theorem chanCode_chanValue_of_canonical (code : ChanCode) (h : code.msb = true → code = 0b10000) :
    chanCode (chanValue code) = code := by
  revert code; decide

@[simp] theorem msb_chanCode_some (c : Nibble) : (chanCode (some c)).msb = false := by revert c; decide

theorem chanCode_canonical (c : Channel) : (chanCode c).msb = true → chanCode c = 0b10000 := by
  cases c with
  | none => intro _; rfl
  | some c => simp

theorem v14_toNat (f s : Data7) : (v14 f s).toNat = s.toNat * 128 + f.toNat := by
  have h1 := f.isLt
  have h2 := s.isLt
  have h : (v14 f s).toNat = (s.toNat <<< 7) ||| f.toNat := by
    simp only [v14, BitVec.toNat_or, BitVec.toNat_shiftLeft, BitVec.zeroExtend, BitVec.toNat_setWidth]
    rw [Nat.mod_eq_of_lt (a := s.toNat) (by omega), Nat.mod_eq_of_lt (a := f.toNat) (by omega),
      Nat.mod_eq_of_lt (by rw [Nat.shiftLeft_eq]; omega)]
  rw [h, Nat.shiftLeft_eq, show (s.toNat * 2 ^ 7) = 2 ^ 7 * s.toNat from Nat.mul_comm _ _,
    ← Nat.two_pow_add_eq_or_of_lt (by omega)]
  omega

/-! ## Outcomes -/

@[simp] theorem andThen_next (s : State) (f : State → Host.Outcome State Fault Refusal) :
    andThen (.next s) f = f s := rfl

@[simp] theorem andThen_refused (r : Refusal) (f : State → Host.Outcome State Fault Refusal) :
    andThen (.refused r) f = .refused r := rfl

/-- A sequence answers next only through a next state of its first part. -/
theorem andThen_eq_next {o : Host.Outcome State Fault Refusal} {f : State → Host.Outcome State Fault Refusal}
    {t : State} (h : andThen o f = .next t) : ∃ u, o = .next u ∧ f u = .next t := by
  cases o with
  | next u => exact ⟨u, rfl, h⟩
  | fault r => exact absurd h (by simp [andThen])
  | refused r => exact absurd h (by simp [andThen])

theorem decodeWith_next (f : Parser → Reply) (s : State) (h : s.initialised = true) :
    decodeWith f s = .next { s with parser := (f s.parser).1, result := (f s.parser).2, ret := none } := by
  simp [decodeWith, h]

theorem decodeWith_refused (f : Parser → Reply) (s : State) (h : s.initialised = false) :
    decodeWith f s = .refused .beforeInit := by
  simp [decodeWith, h]

/-- All a decode step can do: it answers next only after the first init, and writes the six fields and the result. -/
theorem decodeWith_eq_next {f : Parser → Reply} {s t : State} (h : decodeWith f s = .next t) :
    s.initialised = true ∧
      t = { s with parser := (f s.parser).1, result := (f s.parser).2, ret := none } := by
  by_cases hi : s.initialised = true
  · rw [decodeWith_next f s hi] at h; exact ⟨hi, (Host.Outcome.next.inj h).symm⟩
  · rw [decodeWith_refused f s (by simpa using hi)] at h; cases h

/-- A decode step overwrites what the step before showed. -/
@[simp] theorem decodeWith_quiet (f : Parser → Reply) (s : State) : decodeWith f s.quiet = decodeWith f s := rfl

/-! ## The data path -/

theorem dataChecks_above (n : Nat) (b : Byte) (take : Parser → Reply) (p : Parser) (h : 127 < b.toNat) :
    dataChecks n b take p = ignoreByte p := by
  simp [dataChecks, h]

theorem dataChecks_full (n : Nat) (b : Byte) (take : Parser → Reply) (p : Parser) (h : b.toNat ≤ 127)
    (hc : n ≤ p.cnt.toNat) : dataChecks n b take p = overflowGuard p := by
  simp [dataChecks, Nat.not_lt.mpr h, hc]

theorem dataChecks_take (n : Nat) (b : Byte) (take : Parser → Reply) (p : Parser) (h : b.toNat ≤ 127)
    (hc : p.cnt.toNat < n) : dataChecks n b take p = take p := by
  simp [dataChecks, Nat.not_lt.mpr h, Nat.not_le.mpr hc]

theorem acc2_first (f : Channel → Data7 → Data7 → Message) (b : Byte) (p : Parser) (h : p.cnt = 0) :
    acc2 f b p = ({ p with buf0 := b, cnt := 1 }, none) := by
  simp [acc2, bufWrite, h]

theorem acc2_second (f : Channel → Data7 → Data7 → Message) (b : Byte) (p : Parser) (h : p.cnt = 1) :
    acc2 f b p = ({ p with buf1 := b, cnt := 0 }, some (f (chanValue p.pch) (data7 p.buf0) (data7 b))) := by
  simp [acc2, bufWrite, h]

@[simp] theorem sppEnd_keep (r : Reply) : sppEnd true r = r := by simp [sppEnd]

@[simp] theorem sppEnd_partial (rs : Bool) (p : Parser) : sppEnd rs (p, none) = (p, none) := by simp [sppEnd]

@[simp] theorem sppEnd_clear (p : Parser) (m : Message) :
    sppEnd false (p, some m) = ({ p with pk := .none }, some m) := by simp [sppEnd]

/-- A data byte has bit 7 clear exactly when it is at most 127 (30_encoding.md R71, R72). -/
theorem not_status_iff (b : Byte) : isStatusByte b = false ↔ b.toNat ≤ 127 := by
  revert b; decide

/-! ## init and reset -/

theorem clearParser_eq_reset (p : Parser) : clearParser p = Parser.reset := rfl

theorem reinit_eq (s : State) :
    reinit s = .next { s with parser := Parser.reset, initialised := true, result := none, ret := none } := rfl

end Sys2Proof.Machine
end

