-- ==== Sys2Proof/Laws/Exec.lean ====
section
/-! SUPPORT. What one instruction and one activation leave alone in the state around the block. -/

namespace Sys2Proof.Machine

/-- An instruction overwrites what the step before showed: clearing that first changes nothing. -/
theorem exec_quiet (i : Instr) (s : State) : exec i s.quiet = exec i s := by
  cases i <;> rfl

/-- Every instruction but init and reset is refused before the first init. -/
theorem exec_before_init (i : Instr) (s : State) (h : s.initialised = false) (hi : i ≠ .init) (hr : i ≠ .reset) :
    exec i s = .refused .beforeInit := by
  cases i with
  | init => exact absurd rfl hi
  | reset => exact absurd rfl hr
  | setac c => simp [exec, execSetac, h]
  | getac => simp [exec, execGetac, h]
  | _ => exact decodeWith_refused _ s h

theorem exec_setac_next (c : ChanCode) (s : State) (h : s.initialised = true) :
    exec (.setac c) s = .next { s.quiet with parser := writeActive c s.parser } := by
  simp [exec, execSetac, h]

theorem exec_getac_next (s : State) (h : s.initialised = true) :
    exec .getac s = .next { s.quiet with ret := some (readActive s.parser) } := by
  simp [exec, execGetac, h]

/-- The step on a pending activation is the activation with the step's own additions around it. -/
theorem step_one (s : State) (a : Activation) (rest : List Input) (h : s.input = .one a :: rest) :
    step s = settle s (activate a { s with input := rest }) := by
  simp [step, takeInput, h]

theorem settle_next (before t : State) :
    settle before (.next t) =
      .next { t with acRdata := chanCode (readActive before.parser), tick := before.tick + 1 } := rfl

end Sys2Proof.Machine
end

