-- ==== Sys2Proof/Laws/PerInstr.lean ====
section
/-! SUPPORT. Facts of every instruction, one lemma per constructor. -/

namespace Sys2Proof.Laws.EncodedByte

/-- The byte of a well-formed status row has bit 7 set, that of a data row has it clear (30_encoding.md R71-R73). -/
def Statement (i : Instr) : Prop :=
  i.WellFormed = true → ∀ b, encodeByte i = some b →
    (i.format = .status → isStatusByte b = true) ∧ (i.format = .data → isStatusByte b = false)

theorem stNoteOff (c : Nibble) : Statement (.stNoteOff c) := by
  intro _ b e; cases e; exact ⟨fun _ => by revert c; decide, nofun⟩

theorem stNoteOn (c : Nibble) : Statement (.stNoteOn c) := by
  intro _ b e; cases e; exact ⟨fun _ => by revert c; decide, nofun⟩

theorem stPolyKeyPressure (c : Nibble) : Statement (.stPolyKeyPressure c) := by
  intro _ b e; cases e; exact ⟨fun _ => by revert c; decide, nofun⟩

theorem stControlChange (c : Nibble) : Statement (.stControlChange c) := by
  intro _ b e; cases e; exact ⟨fun _ => by revert c; decide, nofun⟩

theorem stProgramChange (c : Nibble) : Statement (.stProgramChange c) := by
  intro _ b e; cases e; exact ⟨fun _ => by revert c; decide, nofun⟩

theorem stChannelPressure (c : Nibble) : Statement (.stChannelPressure c) := by
  intro _ b e; cases e; exact ⟨fun _ => by revert c; decide, nofun⟩

theorem stPitchBend (c : Nibble) : Statement (.stPitchBend c) := by
  intro _ b e; cases e; exact ⟨fun _ => by revert c; decide, nofun⟩

theorem stSysexStart : Statement (.stSysexStart) := by
  intro _ b e; cases e; exact ⟨fun _ => rfl, nofun⟩

theorem stMtcQuarterFrame : Statement (.stMtcQuarterFrame) := by
  intro _ b e; cases e; exact ⟨fun _ => rfl, nofun⟩

theorem stSongPositionPointer : Statement (.stSongPositionPointer) := by
  intro _ b e; cases e; exact ⟨fun _ => rfl, nofun⟩

theorem stSongSelect : Statement (.stSongSelect) := by
  intro _ b e; cases e; exact ⟨fun _ => rfl, nofun⟩

theorem undefF4 : Statement (.undefF4) := by
  intro _ b e; cases e; exact ⟨fun _ => rfl, nofun⟩

theorem undefF5 : Statement (.undefF5) := by
  intro _ b e; cases e; exact ⟨fun _ => rfl, nofun⟩

theorem stTuneRequest : Statement (.stTuneRequest) := by
  intro _ b e; cases e; exact ⟨fun _ => rfl, nofun⟩

theorem stEndOfExclusive : Statement (.stEndOfExclusive) := by
  intro _ b e; cases e; exact ⟨fun _ => rfl, nofun⟩

theorem rtTimingClock : Statement (.rtTimingClock) := by
  intro _ b e; cases e; exact ⟨fun _ => rfl, nofun⟩

theorem undefF9 : Statement (.undefF9) := by
  intro _ b e; cases e; exact ⟨fun _ => rfl, nofun⟩

theorem rtStart : Statement (.rtStart) := by
  intro _ b e; cases e; exact ⟨fun _ => rfl, nofun⟩

theorem rtContinue : Statement (.rtContinue) := by
  intro _ b e; cases e; exact ⟨fun _ => rfl, nofun⟩

theorem rtStop : Statement (.rtStop) := by
  intro _ b e; cases e; exact ⟨fun _ => rfl, nofun⟩

theorem undefFD : Statement (.undefFD) := by
  intro _ b e; cases e; exact ⟨fun _ => rfl, nofun⟩

theorem rtActiveSense : Statement (.rtActiveSense) := by
  intro _ b e; cases e; exact ⟨fun _ => rfl, nofun⟩

theorem rtSystemReset : Statement (.rtSystemReset) := by
  intro _ b e; cases e; exact ⟨fun _ => rfl, nofun⟩

theorem dataNoteOff (b : Byte) : Statement (.dataNoteOff b) := by
  intro h b' e; cases e; exact ⟨nofun, fun _ => by simpa [Instr.WellFormed, isDataByte, isStatusByte] using h⟩

theorem dataNoteOn (b : Byte) : Statement (.dataNoteOn b) := by
  intro h b' e; cases e; exact ⟨nofun, fun _ => by simpa [Instr.WellFormed, isDataByte, isStatusByte] using h⟩

theorem dataPolyKeyPressure (b : Byte) : Statement (.dataPolyKeyPressure b) := by
  intro h b' e; cases e; exact ⟨nofun, fun _ => by simpa [Instr.WellFormed, isDataByte, isStatusByte] using h⟩

theorem dataControlChange (b : Byte) : Statement (.dataControlChange b) := by
  intro h b' e; cases e; exact ⟨nofun, fun _ => by simpa [Instr.WellFormed, isDataByte, isStatusByte] using h⟩

theorem dataPitchBend (b : Byte) : Statement (.dataPitchBend b) := by
  intro h b' e; cases e; exact ⟨nofun, fun _ => by simpa [Instr.WellFormed, isDataByte, isStatusByte] using h⟩

theorem dataSongPositionPointer (b : Byte) : Statement (.dataSongPositionPointer b) := by
  intro h b' e; cases e; exact ⟨nofun, fun _ => by simpa [Instr.WellFormed, isDataByte, isStatusByte] using h⟩

theorem dataProgramChange (b : Byte) : Statement (.dataProgramChange b) := by
  intro h b' e; cases e; exact ⟨nofun, fun _ => by simpa [Instr.WellFormed, isDataByte, isStatusByte] using h⟩

theorem dataChannelPressure (b : Byte) : Statement (.dataChannelPressure b) := by
  intro h b' e; cases e; exact ⟨nofun, fun _ => by simpa [Instr.WellFormed, isDataByte, isStatusByte] using h⟩

theorem dataSongSelect (b : Byte) : Statement (.dataSongSelect b) := by
  intro h b' e; cases e; exact ⟨nofun, fun _ => by simpa [Instr.WellFormed, isDataByte, isStatusByte] using h⟩

theorem dataMtcQuarterFrame (b : Byte) : Statement (.dataMtcQuarterFrame b) := by
  intro h b' e; cases e; exact ⟨nofun, fun _ => by simpa [Instr.WellFormed, isDataByte, isStatusByte] using h⟩

theorem dataSysex (b : Byte) : Statement (.dataSysex b) := by
  intro h b' e; cases e; exact ⟨nofun, fun _ => by simpa [Instr.WellFormed, isDataByte, isStatusByte] using h⟩

theorem dataNone (b : Byte) : Statement (.dataNone b) := by
  intro h b' e; cases e; exact ⟨nofun, fun _ => by simpa [Instr.WellFormed, isDataByte, isStatusByte] using h⟩

theorem dataOther (b : Byte) : Statement (.dataOther b) := by
  intro h b' e; cases e; exact ⟨nofun, fun _ => by simpa [Instr.WellFormed, isDataByte, isStatusByte] using h⟩

theorem init : Statement (.init) := by
  intro _ b e; cases e

theorem reset : Statement (.reset) := by
  intro _ b e; cases e

theorem setac (c : ChanCode) : Statement (.setac c) := by
  intro _ b e; cases e

theorem getac : Statement (.getac) := by
  intro _ b e; cases e

theorem decode (b : Byte) : Statement (.decode b) := by
  intro _ b' e; cases e; exact ⟨nofun, nofun⟩

end Sys2Proof.Laws.EncodedByte
end

