-- ==== Sys2Proof/Tests/Slice0.lean ====
section
/-! SUPPORT. Tests of one step each, with results from spec/95_test_vectors.md (the vector's id is in the name), and
for each statement with hypotheses a witness that they can be met together. -/

open Sys2Proof Sys2Proof.Machine

namespace Sys2Proof.Tests

/-- The state a vector writes `(pk, pch, cnt)`, with `buf[0]`. -/
def stateAt (pk : Kind) (pch : Channel) (cnt : BitVec 2) (b0 : Byte := 0) : State :=
  { State.reset with parser := { Parser.reset with pk := pk, pch := chanCode pch, cnt := cnt, buf0 := b0 } }

/-- What a vector says of a step: the result and the state after, with `buf[0]`. -/
def seen : Host.Outcome State Fault Refusal → Option (Option Message × Kind × ChanCode × BitVec 2 × Byte)
  | .next t => some (t.result, t.parser.pk, t.parser.pch, t.parser.cnt, t.parser.buf0)
  | .fault _ => none
  | .refused _ => none

/-- One step that decodes a byte. -/
def stepByte (s : State) (b : Nat) : Option (Option Message × Kind × ChanCode × BitVec 2 × Byte) :=
  seen (step (s.withFetchWord 8 b))

/-- The next state of an outcome. -/
def nextOf : Host.Outcome State Fault Refusal → Option State
  | .next t => some t
  | .fault _ => none
  | .refused _ => none

/-! ## Well-formedness: a data row's byte has bit 7 clear (30_encoding.md R72) -/

theorem test_ill_formed_data_rows_are_refused :
    [Instr.dataNoteOff 0x80, .dataNoteOn 0x80, .dataPolyKeyPressure 0x80, .dataControlChange 0x80, .dataPitchBend 0x80,
     .dataSongPositionPointer 0x80, .dataProgramChange 0x80, .dataChannelPressure 0x80, .dataSongSelect 0x80,
     .dataMtcQuarterFrame 0x80, .dataSysex 0x80, .dataNone 0x80, .dataOther 0x80].all (fun i => i.WellFormed = false) := by decide

theorem test_well_formed_data_rows :
    [Instr.dataNoteOff 0x7F, .dataNoteOn 0x7F, .dataPolyKeyPressure 0x7F, .dataControlChange 0x7F, .dataPitchBend 0x7F,
     .dataSongPositionPointer 0x7F, .dataProgramChange 0x7F, .dataChannelPressure 0x7F, .dataSongSelect 0x7F,
     .dataMtcQuarterFrame 0x7F, .dataSysex 0x7F, .dataNone 0x7F, .dataOther 0x7F].all (fun i => i.WellFormed) := by decide

/-! ## Decoding: a word for every row, from the encodings of 30_encoding.md R74 and the table -/

theorem test_decode_channel_voice_words :
    [0b10000101#8, 0b10011111#8, 0b10100000#8, 0b10110010#8, 0b11000001#8, 0b11011001#8, 0b11101111#8].map
      (decodeByte midiStatusMap .none) =
    [.stNoteOff 5, .stNoteOn 15, .stPolyKeyPressure 0, .stControlChange 2, .stProgramChange 1, .stChannelPressure 9,
     .stPitchBend 15] := by decide

theorem test_decode_system_common_words :
    [0b11110000#8, 0b11110001#8, 0b11110010#8, 0b11110011#8, 0b11110110#8, 0b11110111#8].map
      (decodeByte midiStatusMap .noteOn) =
    [.stSysexStart, .stMtcQuarterFrame, .stSongPositionPointer, .stSongSelect, .stTuneRequest,
     .stEndOfExclusive] := by decide

theorem test_decode_real_time_words :
    [0b11111000#8, 0b11111010#8, 0b11111011#8, 0b11111100#8, 0b11111110#8, 0b11111111#8].map
      (decodeByte midiStatusMap .sysexStart) =
    [.rtTimingClock, .rtStart, .rtContinue, .rtStop, .rtActiveSense, .rtSystemReset] := by decide

theorem test_decode_undefined_words :
    [0b11110100#8, 0b11110101#8, 0b11111001#8, 0b11111101#8].map (decodeByte midiStatusMap .none) =
    [.undefF4, .undefF5, .undefF9, .undefFD] := by decide

theorem test_decode_two_byte_data_words :
    [Kind.noteOff, .noteOn, .polyKeyPressure, .controlChange, .pitchBend, .songPositionPointer].map
      (fun k => decodeByte midiStatusMap k 0b01111111#8) =
    [.dataNoteOff 127, .dataNoteOn 127, .dataPolyKeyPressure 127, .dataControlChange 127, .dataPitchBend 127,
     .dataSongPositionPointer 127] := by decide

theorem test_decode_other_data_words :
    [Kind.programChange, .channelPressure, .songSelect, .mtcQuarterFrame, .sysexStart, .none, .tuneRequest,
     .allSoundOff, .unused 3].map (fun k => decodeByte midiStatusMap k 0b00110101#8) =
    [.dataProgramChange 53, .dataChannelPressure 53, .dataSongSelect 53, .dataMtcQuarterFrame 53, .dataSysex 53,
     .dataNone 53, .dataOther 53, .dataOther 53, .dataOther 53] := by decide

theorem test_decode_host_strobes :
    [({ opInit := true } : Activation), { opReset := true }, { acWe := true, acWdata := 0b10000 }, { acRead := true },
     { inValid := true, inByte := 0xF8 }].map hostOp =
    [.instr .init, .instr .reset, .instr (.setac 0b10000), .instr .getac, .instr (.decode 0xF8)] := by decide

theorem test_decode_rejects_by_name :
    hostOp {} = .rejected .noStrobe ∧
    hostOp { opReset := true, inValid := true, inByte := 0xF8 } = .rejected .severalStrobes := by decide

theorem test_table_words :
    decodeTableWord 8 0x85 = some (.stNoteOff 5) ∧ decodeTableWord 8 0xF8 = some .rtTimingClock ∧
    decodeTableWord 8 0x3C = some (.dataNone 60) ∧ decodeTableWord 16 0x85 = none ∧
    decodeTableWord 8 0x100 = none := by decide

/-! ## Status bytes (95_test_vectors.md 2.2) -/

theorem test_V_ST1 : stepByte (stateAt .none none 0) 0x85 = some (none, .noteOff, 5, 0, 0) := rfl
theorem test_V_ST2 : stepByte (stateAt .noteOn (some 3) 1 60) 0x90 = some (none, .noteOn, 0, 0, 60) := rfl
theorem test_V_ST3 : stepByte (stateAt .sysexStart none 0) 0xAF = some (none, .polyKeyPressure, 15, 0, 0) := rfl
theorem test_V_ST4 : stepByte (stateAt .pitchBend (some 7) 1 60) 0xB0 = some (none, .controlChange, 0, 0, 60) := rfl
theorem test_V_ST5 : stepByte (stateAt .noteOn (some 0) 1 60) 0xC1 = some (none, .programChange, 1, 0, 60) := rfl
theorem test_V_ST6 : stepByte (stateAt .mtcQuarterFrame none 0) 0xD9 = some (none, .channelPressure, 9, 0, 0) := rfl
theorem test_V_ST7 : stepByte (stateAt .none none 0) 0xEF = some (none, .pitchBend, 15, 0, 0) := rfl
theorem test_V_ST9 :
    stepByte (stateAt .noteOn (some 4) 1 60) 0xF0 = some (some ⟨none, .sysExStart⟩, .sysexStart, 0b10000, 0, 60) := rfl
theorem test_V_ST10 :
    stepByte (stateAt .sysexStart none 0) 0xF0 = some (some ⟨none, .sysExStart⟩, .sysexStart, 0b10000, 0, 0) := rfl
theorem test_V_ST11 :
    stepByte (stateAt .controlChange (some 4) 1 7) 0xF1 = some (none, .mtcQuarterFrame, 0b10000, 0, 7) := rfl
theorem test_V_ST12 :
    stepByte (stateAt .noteOff (some 1) 0) 0xF2 = some (none, .songPositionPointer, 0b10000, 0, 0) := rfl
theorem test_V_ST13 :
    stepByte (stateAt .pitchBend (some 7) 1 60) 0xF3 = some (none, .songSelect, 0b10000, 0, 60) := rfl
theorem test_V_ST14 :
    stepByte (stateAt .noteOn (some 2) 0) 0xF6 = some (some ⟨none, .tuneRequest⟩, .none, 0b10000, 0, 0) := rfl
theorem test_V_ST15 :
    stepByte (stateAt .noteOn (some 2) 1 60) 0xF6 = some (some ⟨none, .tuneRequest⟩, .none, 0b10000, 0, 60) := rfl
theorem test_V_ST16 :
    stepByte (stateAt .sysexStart none 0) 0xF7 = some (some ⟨none, .endOfExclusive⟩, .none, 0b10000, 0, 0) := rfl
theorem test_V_ST18 :
    stepByte (stateAt .programChange (some 6) 0) 0xF7 = some (some ⟨none, .endOfExclusive⟩, .none, 0b10000, 0, 0) := rfl
theorem test_V_GD7 : stepByte (stateAt .noteOn (some 0) 3) 0x90 = some (none, .noteOn, 0, 0, 0) := rfl

/-! ## Real-time and undefined bytes (95_test_vectors.md 2.3) -/

theorem test_V_RT1 :
    stepByte (stateAt .noteOn (some 0) 1 60) 0xF8 = some (some ⟨none, .timingClock⟩, .noteOn, 0, 1, 60) := rfl
theorem test_V_RT2 : stepByte (stateAt .none none 0) 0xFA = some (some ⟨none, .start⟩, .none, 0b10000, 0, 0) := rfl
theorem test_V_RT3 :
    stepByte (stateAt .sysexStart none 0) 0xFB = some (some ⟨none, .cont⟩, .sysexStart, 0b10000, 0, 0) := rfl
theorem test_V_RT4 :
    stepByte (stateAt .pitchBend (some 1) 1 60) 0xFC = some (some ⟨none, .stop⟩, .pitchBend, 1, 1, 60) := rfl
theorem test_V_RT5 :
    stepByte (stateAt .controlChange (some 0) 0) 0xFE = some (some ⟨none, .activeSense⟩, .controlChange, 0, 0, 0) := rfl
theorem test_V_RT6 :
    stepByte (stateAt .noteOn (some 9) 1 60) 0xFF = some (some ⟨none, .systemReset⟩, .noteOn, 9, 1, 60) := rfl
theorem test_V_RT7 :
    stepByte (stateAt .songPositionPointer none 1 60) 0xF8
      = some (some ⟨none, .timingClock⟩, .songPositionPointer, 0b10000, 1, 60) := rfl
theorem test_V_UD1 : stepByte (stateAt .noteOn (some 0) 1 60) 0xF4 = some (none, .noteOn, 0, 1, 60) := rfl
theorem test_V_UD2 : stepByte (stateAt .sysexStart none 0) 0xF5 = some (none, .sysexStart, 0b10000, 0, 0) := rfl
theorem test_V_UD3 : stepByte (stateAt .none none 0) 0xF9 = some (none, .none, 0b10000, 0, 0) := rfl
theorem test_V_UD4 : stepByte (stateAt .programChange (some 4) 0) 0xFD = some (none, .programChange, 4, 0, 0) := rfl

/-! ## Data bytes (95_test_vectors.md 2.4) -/

theorem test_V_DB1_first : stepByte (stateAt .noteOff (some 5) 0) 60 = some (none, .noteOff, 5, 1, 60) := rfl
theorem test_V_DB1_second :
    stepByte (stateAt .noteOff (some 5) 1 60) 64 = some (some ⟨some 5, .noteOff 60 64⟩, .noteOff, 5, 0, 60) := rfl
theorem test_V_DB5_second :
    stepByte (stateAt .noteOn (some 0) 1 60) 0 = some (some ⟨some 0, .noteOff 60 0⟩, .noteOn, 0, 0, 60) := rfl
theorem test_V_DB6_second :
    stepByte (stateAt .noteOn (some 15) 1 127) 1 = some (some ⟨some 15, .noteOn 127 1⟩, .noteOn, 15, 0, 127) := rfl
theorem test_V_DB12_second :
    stepByte (stateAt .polyKeyPressure (some 0) 1 1) 0
      = some (some ⟨some 0, .polyKeyPressure 1 0⟩, .polyKeyPressure, 0, 0, 1) := rfl
theorem test_V_DB14_second :
    stepByte (stateAt .controlChange (some 2) 1 119) 127
      = some (some ⟨some 2, .controlChange 119 127⟩, .controlChange, 2, 0, 119) := rfl
theorem test_V_DB27_second :
    stepByte (stateAt .pitchBend (some 4) 1 127) 0x00
      = some (some ⟨some 4, .pitchBend 127⟩, .pitchBend, 4, 0, 127) := rfl
theorem test_V_DB28_second :
    stepByte (stateAt .pitchBend (some 4) 1) 0x01 = some (some ⟨some 4, .pitchBend 128⟩, .pitchBend, 4, 0, 0) := rfl
theorem test_V_DB29_second :
    stepByte (stateAt .songPositionPointer none 1 16) 0x20
      = some (some ⟨none, .songPositionPointer 4112⟩, .songPositionPointer, 0b10000, 0, 16) := rfl

theorem test_V_DB29_second_SPP_RS_false :
    stepByte { stateAt .songPositionPointer none 1 0x10 with params := { defaultParams with sppRs := false } } 0x20
      = some (some ⟨none, .songPositionPointer 4112⟩, .none, 0b10000, 0, 0x10) := rfl

theorem test_V_DB30 : stepByte (stateAt .sysexStart none 0) 0x41 = some (none, .sysexStart, 0b10000, 0, 0) := rfl
theorem test_V_DB32 : stepByte (stateAt .none none 0) 60 = some (none, .none, 0b10000, 0, 0) := rfl
theorem test_V_DB33 :
    stepByte (stateAt .programChange (some 1) 0) 5
      = some (some ⟨some 1, .programChange 5⟩, .programChange, 1, 0, 0) := rfl
theorem test_V_DB37 :
    stepByte (stateAt .channelPressure (some 9) 0) 127
      = some (some ⟨some 9, .channelPressure 127⟩, .channelPressure, 9, 0, 0) := rfl
theorem test_V_DB38 :
    stepByte (stateAt .songSelect none 0) 5 = some (some ⟨none, .songSelect 5⟩, .none, 0b10000, 0, 0) := rfl
theorem test_V_DB40 :
    stepByte (stateAt .mtcQuarterFrame none 0) 0x35
      = some (some ⟨none, .mtcQuarterFrame 3 5⟩, .none, 0b10000, 0, 0) := rfl
theorem test_V_DB41 :
    stepByte (stateAt .mtcQuarterFrame none 0) 0x7F
      = some (some ⟨none, .mtcQuarterFrame 7 15⟩, .none, 0b10000, 0, 0) := rfl
theorem test_V_GD1 : stepByte (stateAt .programChange (some 1) 1) 5 = some (none, .programChange, 1, 0, 0) := rfl
theorem test_V_GD5 : stepByte (stateAt .tuneRequest none 0) 1 = some (none, .tuneRequest, 0b10000, 0, 0) := rfl
theorem test_V_GD6 : stepByte (stateAt (.unused 3) none 1) 1 = some (none, .unused 3, 0b10000, 0, 0) := rfl

/-- The channel-mode kinds of controllers 120-127 (V-DB15 to V-DB22). -/
theorem test_V_DB15_to_V_DB22 :
    (List.range 8).map (fun n => (assembleControlChange (some 3) (BitVec.ofNat 7 (120 + n)) 9).payload.kind) =
      [.allSoundOff, .resetAllControllers, .localControl, .allNotesOff, .omniOff, .omniOn, .monoOn, .polyOn] := by
  decide

/-! ## Host operations (95_test_vectors.md 2.5) -/

/-- The step on one activation. -/
def stepOn (s : State) (a : Activation) : Option State := nextOf (step { s with input := [.one a] })

/-- A state with an active channel. -/
def withActive (s : State) (c : ChanCode) : State := { s with parser := { s.parser with ach := c } }

theorem test_V_HO1 :
    (stepOn (withActive (stateAt .noteOn (some 3) 1 60) 7) { opInit := true }).map (fun t => (t.parser, t.result)) =
      some (⟨.none, 0b10000, 0b10000, 0, 0, 0⟩, none) := rfl

theorem test_V_HO2 :
    (stepOn (withActive (stateAt .sysexStart none 0) 2) { opReset := true }).map (fun t => (t.parser, t.result)) =
      some (⟨.none, 0b10000, 0b10000, 0, 0, 0⟩, none) := rfl

theorem test_V_HO4 : (stepOn State.reset { acWe := true, acWdata := 4 }).map (fun t => (t.parser.ach, t.result)) =
    some (4, none) := rfl

theorem test_V_HO6 :
    (stepOn (withActive State.reset 4) { acWe := true, acWdata := 0b10111 }).map (fun t => t.parser.ach) =
      some 0b10000 := rfl

theorem test_V_HO7 : (stepOn (withActive State.reset 15) { acRead := true }).map (fun t => (t.ret, t.parser.ach)) =
    some (some (some 15), 15) := rfl

theorem test_V_HO8 : (stepOn State.reset { acRead := true }).map (fun t => t.ret) = some (some none) := rfl

theorem test_V_HO9 :
    (nextOf (exec (.decode 100) (withActive (stateAt .noteOn (some 0) 1 60) 5))).map
      (fun t => (t.result, t.parser.triple, t.parser.ach)) =
      some (some ⟨some 0, .noteOn 60 100⟩, (.noteOn, 0, 0), 5) := rfl

theorem test_V_HO10 :
    (stepOn (stateAt .noteOn (some 0) 1 60) { opReset := true, inValid := true, inByte := 0xF8 }).map
      (fun t => (t.ports.outValid, t.ports.outKind, t.parser)) = some (false, 0, Parser.reset) := rfl

theorem test_V_HO11 :
    (stepOn (withActive State.reset 2) { acWe := true, acWdata := 9, inValid := true, inByte := 0xFA }).map
      (fun t => (t.ports.outValid, t.ports.outKind, t.ports.outCh, t.ports.acRdata, t.parser.ach)) =
      some (true, kindCode .start, 0b10000, 2, 9) := rfl

/-! ## Witnesses: each statement's hypotheses are met by a concrete state and operands -/

/-- A state no init has reached. -/
def raw : State := { State.reset with initialised := false }

/-- A state with one activation pending. -/
def pendingOn (s : State) (a : Activation) : State := { s with input := [.one a] }

/-- The statements whose hypotheses are `initialised` alone, or that and the default table. -/
theorem witness_initialised : State.reset.initialised = true ∧ State.reset.params.statusMap = midiStatusMap := by decide

theorem witness_EncodedInstructionsDecodeBack :
    (Instr.dataOther 0x7F).WellFormed = true ∧ (Instr.dataOther 0x7F).appliesUnder (.unused 0) = true ∧
    (Instr.dataNone 0).WellFormed = true ∧ (Instr.dataNone 0).appliesUnder .none = true ∧
    (∀ b, Instr.dataNone 0 ≠ .decode b) ∧ (Instr.decode 0xFF).format = .host := by
  exact ⟨by decide, by decide, by decide, by decide, nofun, by decide⟩

theorem witness_StepRunsTheDecodedInstruction_next :
    (pendingOn State.reset (byteActivation 0xF8)).input = .one (byteActivation 0xF8) :: [] ∧
    decodeActivation midiStatusMap .none (byteActivation 0xF8) = .instr .rtTimingClock ∧
    ∃ t, exec .rtTimingClock { pendingOn State.reset (byteActivation 0xF8) with input := [] } = .next t :=
  ⟨rfl, by decide, _, rfl⟩

theorem witness_StepRunsTheDecodedInstruction_refused :
    hostOp (byteActivation 0xF8) = .instr (.decode 0xF8) ∧
    exec (.decode 0xF8) { pendingOn raw (byteActivation 0xF8) with input := [] } = .refused .beforeInit :=
  ⟨by decide, rfl⟩

theorem witness_IdleStepHoldsAndClashIsRefused :
    State.reset.input = [] ∧
    { State.reset with input := [.clash { opInit := true } { inValid := true }] }.input =
      .clash { opInit := true } { inValid := true } :: [] := ⟨rfl, rfl⟩

theorem witness_OnlyInitAndResetRunBeforeInit :
    (pendingOn raw { acRead := true }).initialised = false ∧
    ((({ acRead := true } : Activation).opInit || ({ acRead := true } : Activation).opReset) = false) ∧
    (pendingOn raw { opInit := true }).input = .one { opInit := true } :: [] := ⟨rfl, rfl, rfl⟩

theorem witness_StrobesOfOneStepCombine :
    (pendingOn State.reset { acWe := true, acWdata := 31, inValid := true, inByte := 0xFF }).initialised = true ∧
    (pendingOn State.reset { opReset := true, inValid := true }).input =
      .one { opReset := true, inValid := true } :: [] := ⟨rfl, rfl⟩

theorem witness_ResetThenRunIsInitThenRun : State.reset.params = (stateAt .noteOn (some 3) 1 60).params := rfl

theorem witness_TwoDataByteKindsAccumulateAndComplete :
    twoByteRows.all (fun row => decide (row.2.1 = .songPositionPointer → State.reset.params.sppRs = true) &&
      decide ((stateAt row.2.1 none 0).parser.cnt = 0) && decide ((stateAt row.2.1 none 1).parser.cnt = 1)) = true := by
  decide

theorem witness_pending_first : (0x7F : Byte).toNat ≤ 127 ∧ (stateAt .noteOff (some 15) 0).pending .noteOff 0 ∧
    (stateAt .polyKeyPressure (some 0) 0).pending .polyKeyPressure 0 ∧
    (stateAt .noteOn (some 15) 0).pending .noteOn 0 ∧ (stateAt .pitchBend (some 0) 0).pending .pitchBend 0 ∧
    (stateAt .songPositionPointer none 0).pending .songPositionPointer 0 ∧
    (stateAt .controlChange (some 0) 0).pending .controlChange 0 := by
  refine ⟨by decide, ?_, ?_, ?_, ?_, ?_, ?_⟩ <;> exact ⟨rfl, rfl, rfl⟩

theorem witness_pending_second : (0 : Byte).toNat ≤ 127 ∧ (stateAt .noteOff (some 0) 1 127).pending .noteOff 1 ∧
    (stateAt .polyKeyPressure (some 15) 1 127).pending .polyKeyPressure 1 ∧
    (stateAt .noteOn (some 0) 1 127).pending .noteOn 1 ∧ (stateAt .pitchBend (some 15) 1 127).pending .pitchBend 1 ∧
    (stateAt .songPositionPointer none 1 127).pending .songPositionPointer 1 := by
  refine ⟨by decide, ?_, ?_, ?_, ?_, ?_⟩ <;> exact ⟨rfl, rfl, rfl⟩

/-- Both clauses that meet at controller 119/120, and the last. -/
theorem witness_ControlChangeIsReclassifiedFromController120 :
    (stateAt .controlChange (some 2) 1 119).pending .controlChange 1 ∧ (data7 119).toNat < 120 ∧
    (stateAt .controlChange (some 2) 1 120).pending .controlChange 1 ∧ data7 120 = 120 ∧ ¬ (data7 120).toNat < 120 ∧
    (stateAt .controlChange (some 2) 1 127).pending .controlChange 1 ∧ data7 127 = 127 := by
  refine ⟨⟨rfl, rfl, rfl⟩, by decide, ⟨rfl, rfl, rfl⟩, by decide, by decide, ⟨rfl, rfl, rfl⟩, by decide⟩

theorem witness_one_byte_kinds : (stateAt .programChange (some 15) 0).pending .programChange 0 ∧
    (stateAt .channelPressure (some 0) 0).pending .channelPressure 0 ∧
    (stateAt .songSelect none 0).pending .songSelect 0 ∧
    (stateAt .mtcQuarterFrame none 0).pending .mtcQuarterFrame 0 := by
  refine ⟨?_, ?_, ?_, ?_⟩ <;> exact ⟨rfl, rfl, rfl⟩

theorem witness_SysExPayloadAndStrayDataAreAbsorbed :
    (stateAt .sysexStart none 0).parser.pk = .sysexStart ∧ (stateAt .none none 1).parser.pk = .none := ⟨rfl, rfl⟩

theorem witness_DataUnderOtherKindsClearsTheCount :
    (stateAt .allSoundOff none 3).parser.pk ∉ reachableKinds ∧ (stateAt (.unused 3) none 0).parser.pk ∉ reachableKinds := by
  decide

/-- The thresholds 2, 1 and 0. -/
theorem witness_OverflowGuardClearsTheCount :
    need .noteOn ≤ (stateAt .noteOn (some 0) 2).parser.cnt.toNat ∧
    need .programChange ≤ (stateAt .programChange (some 0) 1).parser.cnt.toNat ∧
    need .none ≤ (stateAt .none none 0).parser.cnt.toNat := by decide

theorem witness_DataPathIgnoresBytesAbove127 :
    (Instr.dataNoteOn 0x80).format = .data ∧ (Instr.dataNoteOn 0x80).WellFormed = false := by decide

theorem witness_DecodeDoesWhatItsRowDoes : (0x80 : Byte).msb = true ∧ (0x7F : Byte).msb = false := by decide

theorem witness_HostOperationsAreIdempotent : ∃ i : Instr, i = .init ∨ i = .reset ∨ (∃ c, i = .setac c) :=
  ⟨.setac 31, .inr (.inr ⟨31, rfl⟩)⟩

/-- InstructionsLeaveTheSurroundingsAlone, FieldsChangeOnlyByTheirWriters. -/
theorem witness_frames : (∃ t, exec .getac State.reset = .next t) ∧ (∃ t, exec (.setac 3) State.reset = .next t) ∧
    (∃ t, exec (.stNoteOn 0) State.reset = .next t) ∧
    (∃ t, exec (.dataSongSelect 5) (stateAt .songSelect none 0) = .next t ∧ t.parser.pk ≠ .songSelect) :=
  ⟨⟨_, rfl⟩, ⟨_, rfl⟩, ⟨_, rfl⟩, _, rfl, by decide⟩

theorem witness_PortsShowTheResult :
    State.reset.result = none ∧
    { State.reset with result := some ⟨some 3, .noteOn 60 100⟩ }.result = some ⟨some 3, .noteOn 60 100⟩ := ⟨rfl, rfl⟩

theorem witness_EveryStepKeepsTheBlockInvariant :
    (pendingOn State.reset (byteActivation 0x90)).Inv ∧
    ∃ t, step (pendingOn State.reset (byteActivation 0x90)) = .next t ∧ t.parser.pk = .noteOn := by
  refine ⟨fun _ => ⟨by decide, by decide, by decide, by decide, by decide, by decide, by decide⟩, _, rfl, rfl⟩

theorem witness_RealTimeAndUndefinedBytesAreTransparent :
    passesThrough midiStatusMap 0xF8 = true ∧ passesThrough midiStatusMap 0xF4 = true ∧
    passesThrough midiStatusMap 0x90 = false ∧ passesThrough midiStatusMap 0x7F = false := by decide

theorem witness_AbandoningStatusForgetsThePartialMessage :
    abandons midiStatusMap 0xC1 = true ∧ (stateAt .noteOn (some 0) 1 60).params = State.reset.params ∧
    (stateAt .noteOn (some 0) 1 60).params.statusMap = midiStatusMap := by decide

theorem witness_ChannelModePairsAreReportedOnEveryChannel : (119 : Data7).toNat < 120 := by decide

theorem witness_DataBytesAfterResetAreIgnored :
    ∀ b ∈ [(0 : Byte), 0x7F, 0xF8, 0xFD, 0xF6, 0xF7], isStatusByte b = true →
      passesThrough midiStatusMap b = true ∨ b = 0xF6 ∨ b = 0xF7 := by decide

theorem witness_SysExPayloadIsOpaqueUntilItsEnd :
    ∀ b ∈ [(0 : Byte), 0x7F, 0xFB, 0xF5], isStatusByte b = true → passesThrough midiStatusMap b = true := by decide

end Sys2Proof.Tests
end

section
/-! PROOFS. The status bytes (40_status_bytes.md): each row's reply, its effect, and DECODE as the row its byte selects.
First the facts of the decoder, then those of a decode step, then the statements. -/

namespace Sys2Proof

/-! ## The row a byte selects -/

@[simp] theorem format_statusInstr (r : StatusRow) (b : Byte) : (statusInstr r b).format = .status := by
  cases r <;> rfl

@[simp] theorem format_dataInstr (pk : Kind) (b : Byte) : (dataInstr pk b).format = .data := by
  cases pk <;> rfl

theorem decodeByte_of_status (m : List MapRow) (pk : Kind) {b : Byte} (h : isStatusByte b = true) :
    decodeByte m pk b = statusInstr (lookupStatus m b) b :=
  if_pos h

theorem decodeByte_of_data (m : List MapRow) (pk : Kind) {b : Byte} (h : isStatusByte b = false) :
    decodeByte m pk b = dataInstr pk b :=
  if_neg (Bool.eq_false_iff.mp h)

end Sys2Proof

namespace Sys2Proof.Machine

/-! ## The reply to a byte -/

theorem parseByte_of_status (ps : Params) {b : Byte} (p : Parser) (h : isStatusByte b = true) :
    parseByte ps b p = statusStep ps.statusMap b p :=
  if_pos h

theorem parseByte_of_data (ps : Params) {b : Byte} (p : Parser) (h : isStatusByte b = false) :
    parseByte ps b p = dataStep ps.sppRs b p :=
  if_neg (Bool.eq_false_iff.mp h)

/-- The data path depends on the rule behind its checks only through the reply to the present fields. -/
theorem dataChecks_congr (n : Nat) (b : Byte) {take take' : Parser → Reply} {p : Parser} (h : take p = take' p) :
    dataChecks n b take p = dataChecks n b take' p := by
  simp only [dataChecks, h]

/-- A decode step depends on its rule only through the reply to the block's present fields. -/
theorem decodeWith_congr {f g : Parser → Reply} {s : State} (h : f s.parser = g s.parser) :
    decodeWith f s = decodeWith g s := by
  simp only [decodeWith, h]

/-! ## What a row does is what DECODE's dispatch does -/

/-- The row STATUS_MAP gives a byte does the status step of that byte (40_status_bytes.md R101). -/
theorem exec_statusInstr_lookup (b : Byte) (s : State) :
    exec (statusInstr (lookupStatus s.params.statusMap b) b) s = decodeWith (statusStep s.params.statusMap b) s := by
  cases hrow : lookupStatus s.params.statusMap b <;> exact decodeWith_congr (by simp only [statusStep, hrow])

/-- The row of the pending kind does the data step (41_data_bytes.md R140). For a kind that takes no data byte both
sides end in the overflow guard. -/
theorem exec_dataInstr_pending (b : Byte) (s : State) :
    exec (dataInstr s.parser.pk b) s = decodeWith (dataStep s.params.sppRs b) s := by
  cases hpk : s.parser.pk <;>
    exact decodeWith_congr (by rw [dataStep, hpk]; exact dataChecks_congr _ b (by simp only [routeData, hpk]))

/-- DECODE does what the row its byte selects does, also before the first init (40_status_bytes.md R100). -/
theorem exec_decode_eq_exec_decodeByte (b : Byte) (s : State) :
    exec (.decode b) s = exec (decodeByte s.params.statusMap s.parser.pk b) s := by
  cases hb : isStatusByte b with
  | true =>
    rw [decodeByte_of_status _ _ hb, exec_statusInstr_lookup]
    exact decodeWith_congr (parseByte_of_status _ _ hb)
  | false =>
    rw [decodeByte_of_data _ _ hb, exec_dataInstr_pending]
    exact decodeWith_congr (parseByte_of_data _ _ hb)

/-- After init DECODE answers the reply to its byte (42_host_operations.md R185). -/
theorem exec_decode_next (b : Byte) (s : State) (h : s.initialised = true) :
    exec (.decode b) s = .next { s with parser := (parseByte s.params b s.parser).1,
                                        result := (parseByte s.params b s.parser).2, ret := none } :=
  decodeWith_next _ s h

/-! ## The rows that share a rule -/

/-- The channel voice status rows, each with the kind it makes pending (40_status_bytes.md R103-R109). -/
def channelVoiceRows : List ((Nibble → Instr) × Kind) :=
  [(.stNoteOff, .noteOff), (.stNoteOn, .noteOn), (.stPolyKeyPressure, .polyKeyPressure),
   (.stControlChange, .controlChange), (.stProgramChange, .programChange),
   (.stChannelPressure, .channelPressure), (.stPitchBend, .pitchBend)]

/-- The real-time rows, each with its message (40_status_bytes.md R118-R123). -/
def realTimeRows : List (Instr × Payload) :=
  [(.rtTimingClock, .timingClock), (.rtStart, .start), (.rtContinue, .cont), (.rtStop, .stop),
   (.rtActiveSense, .activeSense), (.rtSystemReset, .systemReset)]

/-- The rows of class UNDEF (40_status_bytes.md R125-R128). -/
def undefinedRows : List Instr := [.undefF4, .undefF5, .undefF9, .undefFD]

theorem exec_channelVoiceRow {row : (Nibble → Instr) × Kind} (hrow : row ∈ channelVoiceRows) (c : Nibble) (s : State) :
    exec (row.1 c) s = decodeWith (cvStatus row.2 c) s := by
  fin_cases hrow <;> rfl

theorem exec_realTimeRow {row : Instr × Payload} (hrow : row ∈ realTimeRows) (s : State) :
    exec row.1 s = decodeWith (rtStatus row.2) s := by
  fin_cases hrow <;> rfl

theorem exec_undefinedRow {i : Instr} (hi : i ∈ undefinedRows) (s : State) :
    exec i s = decodeWith undefStatus s := by
  fin_cases hi <;> rfl

/-! ## The statements -/

/-- Settles O33: DECODE's dispatch and the decoder split a byte by bit 7 alike, and each side is one decode step. -/
theorem decodeDoesWhatItsRowDoes : Obligations.DecodeDoesWhatItsRowDoes := by
  intro b s hinit
  refine ⟨fun hstatus => ?_, fun hdata => ?_, exec_decode_eq_exec_decodeByte b s, _, exec_decode_next b s hinit⟩
  · rw [decodeByte_of_status _ _ hstatus, format_statusInstr]
  · rw [decodeByte_of_data _ _ hdata, format_dataInstr]

/-- Settles O15: the seven rows are the decode step of `CV_STATUS`. -/
theorem channelVoiceStatusSetsRunningStatus : Obligations.ChannelVoiceStatusSetsRunningStatus := by
  intro row hrow c s hinit
  rw [exec_channelVoiceRow hrow]
  exact decodeWith_next _ s hinit

/-- Settles O19: the six rows are the decode step of `RT_STATUS`, whose reply is the fields it was given. -/
theorem realTimeBytesCompleteAndWriteNothing : Obligations.RealTimeBytesCompleteAndWriteNothing := by
  intro row hrow s hinit
  rw [exec_realTimeRow hrow]
  exact decodeWith_next _ s hinit

/-- Settles O20: the four rows are the decode step of `UNDEF_STATUS`, whose reply is the fields it was given. -/
theorem undefinedStatusBytesAreIgnored : Obligations.UndefinedStatusBytesAreIgnored := by
  intro i hi s hinit
  rw [exec_undefinedRow hi]
  exact decodeWith_next _ s hinit

end Sys2Proof.Machine
end

section
/-! PROOFS. The data bytes (41_data_bytes.md): the row a data byte selects, the data step as its checks and its routing,
the steps of the kinds that take two data bytes, and the byte the guard absorbs. -/

namespace Sys2Proof.Machine

/-! ## The row of a data byte -/

/-- Every data row stands at the pending kind of its `when` column (30_encoding.md R85). -/
theorem dataInstr_of_dataRow {row : (Byte → Instr) × Kind} (hrow : row ∈ dataRows) (b : Byte) :
    dataInstr row.2 b = row.1 b := by
  fin_cases hrow <;> rfl

theorem decodeByte_of_dataRow {row : (Byte → Instr) × Kind} (hrow : row ∈ dataRows) (m : List MapRow) {b : Byte}
    (hb : b.toNat ≤ 127) : decodeByte m row.2 b = row.1 b := by
  rw [decodeByte_of_data m _ ((not_status_iff b).mpr hb), dataInstr_of_dataRow hrow]

/-- Under its own pending kind a data row does `DATA_STEP` (41_data_bytes.md R140). -/
theorem exec_dataRow_pending {row : (Byte → Instr) × Kind} (hrow : row ∈ dataRows) (b : Byte) {s : State}
    (hpk : s.parser.pk = row.2) : exec (row.1 b) s = decodeWith (dataStep s.params.sppRs b) s := by
  rw [← dataInstr_of_dataRow hrow, ← hpk, exec_dataInstr_pending]

/-! ## The data step -/

theorem dataStep_full (sppRs : Bool) {b : Byte} {p : Parser} (hb : b.toNat ≤ 127) (hfull : need p.pk ≤ p.cnt.toNat) :
    dataStep sppRs b p = overflowGuard p :=
  dataChecks_full _ b _ p hb hfull

theorem dataStep_take (sppRs : Bool) {b : Byte} {p : Parser} (hb : b.toNat ≤ 127) (hroom : p.cnt.toNat < need p.pk) :
    dataStep sppRs b p = routeData sppRs b p :=
  dataChecks_take _ b _ p hb hroom

/-- A data byte that finds the bytes of its kind complete is lost to the guard (41_data_bytes.md R141). -/
theorem exec_dataRow_full {row : (Byte → Instr) × Kind} (hrow : row ∈ dataRows) {b : Byte} {s : State}
    (hb : b.toNat ≤ 127) (hinit : s.initialised = true) (hpk : s.parser.pk = row.2)
    (hfull : need row.2 ≤ s.parser.cnt.toNat) :
    exec (row.1 b) s = .next { s with parser := { s.parser with cnt := 0 }, result := none, ret := none } := by
  rw [exec_dataRow_pending hrow b hpk, decodeWith_next _ s hinit, dataStep_full _ hb (by rwa [hpk])]
  rfl

/-! ## The two-data-byte kinds -/

section TwoByteRow

variable {row : (Byte → Instr) × Kind × (Channel → Data7 → Data7 → Message)}

theorem mem_dataRows_of_twoByteRow (hrow : row ∈ twoByteRows) : (row.1, row.2.1) ∈ dataRows := by
  fin_cases hrow <;> simp [dataRows]

theorem need_twoByteRow (hrow : row ∈ twoByteRows) : need row.2.1 = 2 := by
  fin_cases hrow <;> rfl

theorem decodeByte_of_twoByteRow (hrow : row ∈ twoByteRows) (m : List MapRow) {b : Byte} (hb : b.toNat ≤ 127) :
    decodeByte m row.2.1 b = row.1 b :=
  decodeByte_of_dataRow (mem_dataRows_of_twoByteRow hrow) m hb

/-- A two-data-byte kind is routed to `ACC2`; Song Position Pointer, the sixth row, alone looks at SPP_RS
(41_data_bytes.md R149). -/
theorem routeData_twoByteRow (hrow : row ∈ twoByteRows) {sppRs : Bool}
    (hspp : row.2.1 = .songPositionPointer → sppRs = true) (b : Byte) {p : Parser} (hpk : p.pk = row.2.1) :
    routeData sppRs b p = acc2 row.2.2 b p := by
  simp only [routeData, hpk]
  fin_cases hrow
  pick_goal 6
  · rw [hspp rfl]
    exact sppEnd_keep _
  all_goals rfl

/-- While the buffer of a two-data-byte kind has room, its row is the decode step of `ACC2` (41_data_bytes.md R142). -/
theorem exec_twoByteRow (hrow : row ∈ twoByteRows) {b : Byte} {s : State} (hb : b.toNat ≤ 127)
    (hspp : row.2.1 = .songPositionPointer → s.params.sppRs = true) (hpk : s.parser.pk = row.2.1)
    (hroom : s.parser.cnt.toNat < 2) : exec (row.1 b) s = decodeWith (acc2 row.2.2 b) s := by
  rw [exec_dataRow_pending (mem_dataRows_of_twoByteRow hrow) b hpk]
  apply decodeWith_congr
  rw [dataStep_take _ hb (by rwa [hpk, need_twoByteRow hrow]), routeData_twoByteRow hrow hspp b hpk]

end TwoByteRow

/-! ## The pair of a Note On -/

/-- A data byte is zero exactly when its 7-bit value is. -/
theorem data7_eq_zero_iff {b : Byte} (hb : b.toNat ≤ 127) : data7 b = 0 ↔ b = 0 := by
  revert b; decide

/-- The reclassification of 41_data_bytes.md R144, told from the second byte itself. -/
theorem assembleNoteOn_data7 (ch : Channel) (first : Data7) {b : Byte} (hb : b.toNat ≤ 127) :
    assembleNoteOn ch first (data7 b) = ⟨ch, if b = 0 then .noteOff first 0 else .noteOn first (data7 b)⟩ := by
  simp only [assembleNoteOn, data7_eq_zero_iff hb]
  split <;> rfl

/-! ## The statements -/

/-- Settles O21: with none or one byte held the row is the decode step of `ACC2`, whose two replies are known. -/
theorem twoDataByteKindsAccumulateAndComplete : Obligations.TwoDataByteKindsAccumulateAndComplete := by
  intro row hrow b s hb hspp
  refine ⟨fun ⟨hinit, hpk, hcnt⟩ => ?_, fun ⟨hinit, hpk, hcnt⟩ => ?_⟩
  · rw [exec_twoByteRow hrow hb hspp hpk (by simp [hcnt]), decodeWith_next _ s hinit, acc2_first _ b _ hcnt]
  · rw [exec_twoByteRow hrow hb hspp hpk (by simp [hcnt]), decodeWith_next _ s hinit, acc2_second _ b _ hcnt]

/-- Settles O22: both are rows of O21, and their messages are their pairs as they stand. -/
theorem noteOffAndKeyPressureReportTheirPair : Obligations.NoteOffAndKeyPressureReportTheirPair := by
  intro row hrow b s hb
  fin_cases hrow
  · have hmem : (Instr.dataNoteOff, Kind.noteOff, assembleNoteOff) ∈ twoByteRows := by simp [twoByteRows]
    exact ⟨decodeByte_of_twoByteRow hmem _ hb,
      twoDataByteKindsAccumulateAndComplete _ hmem b s hb nofun⟩
  · have hmem : (Instr.dataPolyKeyPressure, Kind.polyKeyPressure, assemblePolyKeyPressure) ∈ twoByteRows := by
      simp [twoByteRows]
    exact ⟨decodeByte_of_twoByteRow hmem _ hb,
      twoDataByteKindsAccumulateAndComplete _ hmem b s hb nofun⟩

/-- Settles O23: the row of O21, with velocity 0 told from the byte. -/
theorem noteOnWithVelocityZeroIsReportedAsNoteOff : Obligations.NoteOnWithVelocityZeroIsReportedAsNoteOff := by
  intro b s hb
  have hmem : (Instr.dataNoteOn, Kind.noteOn, assembleNoteOn) ∈ twoByteRows := by simp [twoByteRows]
  obtain ⟨hfirst, hsecond⟩ := twoDataByteKindsAccumulateAndComplete _ hmem b s hb nofun
  refine ⟨decodeByte_of_twoByteRow hmem _ hb, hfirst, fun hpending => ?_⟩
  rw [← assembleNoteOn_data7 _ _ hb]
  exact hsecond hpending

/-- Settles O24: the row of O21, whose message carries the value of R150. -/
theorem pitchBendReportsTheFourteenBitValue : Obligations.PitchBendReportsTheFourteenBitValue := by
  intro b s hb
  have hmem : (Instr.dataPitchBend, Kind.pitchBend, assemblePitchBend) ∈ twoByteRows := by simp [twoByteRows]
  exact ⟨decodeByte_of_twoByteRow hmem _ hb,
    twoDataByteKindsAccumulateAndComplete _ hmem b s hb nofun⟩

/-- Settles O29: neither kind needs a data byte, so the guard takes the byte whatever the count. -/
theorem sysExPayloadAndStrayDataAreAbsorbed : Obligations.SysExPayloadAndStrayDataAreAbsorbed := by
  intro row hrow b s hb hinit hpk
  have hmem : row ∈ dataRows := by fin_cases hrow <;> simp [dataRows]
  have hneed : need row.2 = 0 := by fin_cases hrow <;> rfl
  exact ⟨by rw [hpk, decodeByte_of_dataRow hmem _ hb], exec_dataRow_full hmem hb hinit hpk (by simp [hneed])⟩

end Sys2Proof.Machine
end

section
/-! PROOFS. Reset (70_reset_and_hazards.md): the block's two reset sources are one operation, whose whole effect
`reinit_eq` gives. -/

namespace Sys2Proof.Machine

theorem exec_init (s : State) : exec .init s = reinit s := rfl

theorem exec_reset (s : State) : exec .reset s = reinit s := rfl

/-- Settles O12: both instructions are `reinit`, which asks nothing of the state it finds. -/
theorem initAndResetHaveOneEffectInEveryState : Obligations.InitAndResetHaveOneEffectInEveryState := by
  intro s
  exact ⟨(exec_init s).trans (reinit_eq s), (exec_reset s).trans (reinit_eq s)⟩

end Sys2Proof.Machine
end

section
/-! PROOFS. The decoder and the encoder (30_encoding.md): a status row's byte is classed back as its row, a data row's
byte is read back under its own pending kind, and the strobes of a host operation name it. -/

namespace Sys2Proof

open Sys2Proof.Machine

/-! ## Status rows -/

/-- The encoded byte of a status row is a status byte that the default table classes as that row, operand included
(30_encoding.md R74, R83). -/
theorem exists_encodeByte_of_status {i : Instr} (hi : i.format = .status) :
    ∃ b, encodeByte i = some b ∧ isStatusByte b = true ∧ statusInstr (lookupStatus midiStatusMap b) b = i := by
  cases i with
  | stNoteOff c | stNoteOn c | stPolyKeyPressure c | stControlChange c | stProgramChange c | stChannelPressure c
  | stPitchBend c => exact ⟨_, rfl, by revert c; decide⟩
  | stSysexStart | stMtcQuarterFrame | stSongPositionPointer | stSongSelect | undefF4 | undefF5 | stTuneRequest
  | stEndOfExclusive | rtTimingClock | undefF9 | rtStart | rtContinue | rtStop | undefFD | rtActiveSense
  | rtSystemReset => exact ⟨_, rfl, by decide⟩
  | _ => cases hi

/-- A status row decodes from its byte under every pending kind. -/
theorem decodeByte_encodeByte_of_status {i : Instr} {b : Byte} (hi : i.format = .status) (hb : encodeByte i = some b)
    (pk : Kind) : decodeByte midiStatusMap pk b = i := by
  obtain ⟨b', hb', hstatus, hrow⟩ := exists_encodeByte_of_status hi
  obtain rfl : b = b' := Option.some.inj (hb.symm.trans hb')
  rw [decodeByte_of_status _ _ hstatus, hrow]

/-- The encoder writes a status byte back from the row and operand it was classed as. -/
theorem encodeByte_statusInstr_lookup :
    ∀ b : Byte, isStatusByte b = true → encodeByte (statusInstr (lookupStatus midiStatusMap b) b) = some b := by
  decide

theorem wellFormed_statusInstr (r : StatusRow) (b : Byte) : (statusInstr r b).WellFormed = true := by
  cases r <;> rfl

theorem appliesUnder_statusInstr (r : StatusRow) (b : Byte) (pk : Kind) : (statusInstr r b).appliesUnder pk = true := by
  cases r <;> rfl

/-! ## Data rows -/

theorem isDataByte_eq_not (b : Byte) : isDataByte b = !isStatusByte b := rfl

/-- A data row that applies under a pending kind is the row the decoder gives its byte there (30_encoding.md R85). -/
theorem exists_eq_dataInstr_of_appliesUnder {i : Instr} {pk : Kind} (hi : i.format = .data)
    (happ : i.appliesUnder pk = true) : ∃ b, i = dataInstr pk b := by
  cases i with
  | dataNoteOff b | dataNoteOn b | dataPolyKeyPressure b | dataControlChange b | dataPitchBend b
  | dataSongPositionPointer b | dataProgramChange b | dataChannelPressure b | dataSongSelect b
  | dataMtcQuarterFrame b | dataSysex b | dataNone b =>
    obtain rfl : pk = _ := eq_of_beq happ
    exact ⟨b, rfl⟩
  | dataOther b =>
    refine ⟨b, ?_⟩
    cases pk <;> simp [Instr.appliesUnder, dataInstr] at happ ⊢
  | _ => cases hi

/-- Every data row is the row of some pending kind. -/
theorem exists_eq_dataInstr {i : Instr} (hi : i.format = .data) : ∃ (k : Kind) (b : Byte), i = dataInstr k b := by
  cases i with
  | dataNoteOff b => exact ⟨.noteOff, b, rfl⟩
  | dataNoteOn b => exact ⟨.noteOn, b, rfl⟩
  | dataPolyKeyPressure b => exact ⟨.polyKeyPressure, b, rfl⟩
  | dataControlChange b => exact ⟨.controlChange, b, rfl⟩
  | dataPitchBend b => exact ⟨.pitchBend, b, rfl⟩
  | dataSongPositionPointer b => exact ⟨.songPositionPointer, b, rfl⟩
  | dataProgramChange b => exact ⟨.programChange, b, rfl⟩
  | dataChannelPressure b => exact ⟨.channelPressure, b, rfl⟩
  | dataSongSelect b => exact ⟨.songSelect, b, rfl⟩
  | dataMtcQuarterFrame b => exact ⟨.mtcQuarterFrame, b, rfl⟩
  | dataSysex b => exact ⟨.sysexStart, b, rfl⟩
  | dataNone b => exact ⟨.none, b, rfl⟩
  | dataOther b => exact ⟨.tuneRequest, b, rfl⟩
  | _ => cases hi

@[simp] theorem encodeByte_dataInstr (pk : Kind) (b : Byte) : encodeByte (dataInstr pk b) = some b := by
  cases pk <;> rfl

@[simp] theorem wellFormed_dataInstr (pk : Kind) (b : Byte) : (dataInstr pk b).WellFormed = isDataByte b := by
  cases pk <;> rfl

@[simp] theorem appliesUnder_dataInstr (pk : Kind) (b : Byte) : (dataInstr pk b).appliesUnder pk = true := by
  cases pk <;> rfl

/-! ## Activations -/

theorem encode_of_encodeByte {i : Instr} {b : Byte} (hb : encodeByte i = some b) : encode i = byteActivation b := by
  simp [encode, hb]

@[simp] theorem decodeActivation_byteActivation (m : List MapRow) (pk : Kind) (b : Byte) :
    decodeActivation m pk (byteActivation b) = .instr (decodeByte m pk b) := rfl

/-- The strobes of a host operation name it (42_host_operations.md R187). -/
theorem hostOp_encode_of_host {i : Instr} (hi : i.format = .host) : hostOp (encode i) = .instr i := by
  cases i with
  | init | reset | setac c | getac | decode b => rfl
  | _ => cases hi

/-- A host operation other than DECODE is its own row. -/
theorem decodeActivation_of_hostOp {m : List MapRow} {pk : Kind} {a : Activation} {i : Instr}
    (ha : hostOp a = .instr i) (hi : ∀ b, i ≠ .decode b) : decodeActivation m pk a = .instr i := by
  unfold decodeActivation
  split
  · next b hb => exact absurd (Decoded.instr.inj (ha.symm.trans hb)) (hi b)
  · exact ha

/-! ## The statements -/

/-- Settles O4: a status row comes back through STATUS_MAP, a data row through the pending kind it applies under, a host
operation through its strobes. -/
theorem encodedInstructionsDecodeBack : Obligations.EncodedInstructionsDecodeBack := by
  refine ⟨fun i pk hwf happ hdecode => ?_, fun i => hostOp_encode_of_host⟩
  cases hi : i.format with
  | status =>
    obtain ⟨b, hb, -⟩ := exists_encodeByte_of_status hi
    rw [encode_of_encodeByte hb, decodeActivation_byteActivation, decodeByte_encodeByte_of_status hi hb]
  | data =>
    obtain ⟨b, rfl⟩ := exists_eq_dataInstr_of_appliesUnder hi happ
    have hb : isStatusByte b = false := by simpa [isDataByte_eq_not] using hwf
    rw [encode_of_encodeByte (encodeByte_dataInstr pk b), decodeActivation_byteActivation,
      decodeByte_of_data _ _ hb]
  | host => exact decodeActivation_of_hostOp (hostOp_encode_of_host hi) hdecode

/-- Settles O5: a status byte is some row of the table with its operand, a data byte the row of the pending kind. -/
theorem decodedBytesEncodeBack : Obligations.DecodedBytesEncodeBack := by
  intro pk b
  cases hb : isStatusByte b with
  | true =>
    rw [decodeByte_of_status _ _ hb]
    exact ⟨wellFormed_statusInstr _ b, appliesUnder_statusInstr _ b pk, encodeByte_statusInstr_lookup b hb⟩
  | false =>
    rw [decodeByte_of_data _ _ hb]
    exact ⟨by simpa [isDataByte_eq_not] using hb, appliesUnder_dataInstr pk b, encodeByte_dataInstr pk b⟩

/-- Settles O1: the words are closed, so the decoder is run on them. -/
theorem specWordsDecodeToTheirRows : Obligations.SpecWordsDecodeToTheirRows := by
  unfold Obligations.SpecWordsDecodeToTheirRows
  decide

/-- Settles O2: each word is the encoded byte of its row. -/
theorem statusBytesSelectTheirRows : Obligations.StatusBytesSelectTheirRows := by
  refine fun pk => ⟨fun row hrow c => ?_, fun row hrow => ?_⟩
  · have hencoded : (row.2 c).format = .status ∧ encodeByte (row.2 c) = some (row.1 ++ c) := by
      fin_cases hrow <;> exact ⟨rfl, rfl⟩
    exact decodeByte_encodeByte_of_status hencoded.1 hencoded.2 pk
  · have hencoded : row.2.format = .status ∧ encodeByte row.2 = some row.1 := by
      fin_cases hrow <;> exact ⟨rfl, rfl⟩
    exact decodeByte_encodeByte_of_status hencoded.1 hencoded.2 pk

/-- Settles O3: the table and the 256 bytes are finite. -/
theorem statusBytesFitExactlyOneRow : Obligations.StatusBytesFitExactlyOneRow := by
  unfold Obligations.StatusBytesFitExactlyOneRow
  decide

end Sys2Proof

namespace Sys2Proof.Machine

theorem kindOfCode_kindCode (k : Kind) : kindOfCode (kindCode k) = k := by
  cases k with
  | unused n => revert n; decide
  | _ => rfl

theorem kindCode_kindOfCode : ∀ c, kindCode (kindOfCode c) = c := by decide

/-- Settles O6: the two maps are inverse, code by code and kind by kind. -/
theorem kindCodesNameEveryCodeOnce : Obligations.KindCodesNameEveryCodeOnce :=
  ⟨kindOfCode_kindCode, kindCode_kindOfCode, rfl, rfl, rfl, rfl, rfl⟩

end Sys2Proof.Machine
end

section
/-! PROOFS. What a status byte and a data byte can do to the block, said once (40_status_bytes.md, 41_data_bytes.md),
and from it the frame of every instruction (10_state.md R23). -/

namespace Sys2Proof.Machine

/-! ## What a status byte can do -/

/-- The replies to a status byte from the block `p`, by class (30_encoding.md R75). -/
inductive StatusReply (p : Parser) : Reply → Prop
  | voice (k : Kind) (c : Nibble) (hk : k ∈ channelVoiceKinds) : StatusReply p (cvStatus k c p)
  | payload (k : Kind) (hk : k ∈ [.mtcQuarterFrame, .songPositionPointer, .songSelect]) :
      StatusReply p (scPayloadStatus k p)
  | sysex : StatusReply p (sysexStatus p)
  | bare (m : Payload) : StatusReply p (scBareStatus m p)
  | realTime (m : Payload) : StatusReply p (rtStatus m p)
  | undefined : StatusReply p (undefStatus p)

theorem statusReply_statusStep (m : List MapRow) (b : Byte) (p : Parser) : StatusReply p (statusStep m b p) := by
  unfold statusStep
  cases lookupStatus m b with
  | noteOff | noteOn | polyKeyPressure | controlChange | programChange | channelPressure | pitchBend =>
    exact .voice _ _ (by decide)
  | mtcQuarterFrame | songPositionPointer | songSelect => exact .payload _ (by decide)
  | sysexStart => exact .sysex
  | tuneRequest | endOfExclusive => exact .bare _
  | timingClock | start | cont | stop | activeSense | systemReset => exact .realTime _
  | undefF4 | undefF5 | undefF9 | undefFD => exact .undefined

/-- A status row is a decode step with one of those replies. -/
theorem exec_status {i : Instr} (hi : i.format = .status) (s : State) :
    ∃ f, exec i s = decodeWith f s ∧ StatusReply s.parser (f s.parser) := by
  cases i with
  | stNoteOff c | stNoteOn c | stPolyKeyPressure c | stControlChange c | stProgramChange c | stChannelPressure c
  | stPitchBend c => exact ⟨_, rfl, .voice _ c (by decide)⟩
  | stMtcQuarterFrame | stSongPositionPointer | stSongSelect => exact ⟨_, rfl, .payload _ (by decide)⟩
  | stSysexStart => exact ⟨_, rfl, .sysex⟩
  | stTuneRequest | stEndOfExclusive => exact ⟨_, rfl, .bare _⟩
  | rtTimingClock | rtStart | rtContinue | rtStop | rtActiveSense | rtSystemReset => exact ⟨_, rfl, .realTime _⟩
  | undefF4 | undefF5 | undefF9 | undefFD => exact ⟨_, rfl, .undefined⟩
  | _ => cases hi

theorem StatusReply.keeps_active_and_buffer {p : Parser} {r : Reply} (h : StatusReply p r) :
    r.1.ach = p.ach ∧ r.1.buf0 = p.buf0 ∧ r.1.buf1 = p.buf1 := by
  cases h <;> exact ⟨rfl, rfl, rfl⟩

/-! ## What a data byte can do -/

/-- The replies of the row of kind `k` to a data byte `b` from the block `p`; in them the messages are left open. -/
inductive DataReply (sppRs : Bool) (b : Byte) (p : Parser) (k : Kind) : Reply → Prop
  | absorbed : DataReply sppRs b p k (overflowGuard p)
  | first (hneed : need k = 2) (hcnt : p.cnt = 0) : DataReply sppRs b p k ({ p with buf0 := b, cnt := 1 }, none)
  | second (hneed : need k = 2) (hcnt : p.cnt = 1) (m : Message) :
      DataReply sppRs b p k ({ p with buf1 := b, cnt := 0 }, some m)
  | songPositionEnd (hk : k = .songPositionPointer) (hrs : sppRs = false) (hcnt : p.cnt = 1) (m : Message) :
      DataReply sppRs b p k ({ p with buf1 := b, cnt := 0, pk := .none }, some m)
  | kept (hk : k ∈ [.programChange, .channelPressure]) (hcnt : p.cnt = 0) (m : Message) :
      DataReply sppRs b p k (p, some m)
  | cleared (hk : k ∈ [.songSelect, .mtcQuarterFrame]) (hcnt : p.cnt = 0) (m : Message) :
      DataReply sppRs b p k ({ p with pk := .none }, some m)

theorem cnt_eq_zero_or_one {c : BitVec 2} (h : c.toNat < 2) : c = 0 ∨ c = 1 := by
  revert c; decide

theorem cnt_eq_zero {c : BitVec 2} (h : c.toNat < 1) : c = 0 := by
  revert c; decide

section

variable {sppRs : Bool} {b : Byte} {p : Parser} {k : Kind}

theorem DataReply.acc2 (f : Channel → Data7 → Data7 → Message) (hneed : need k = 2) (hroom : p.cnt.toNat < 2) :
    DataReply sppRs b p k (acc2 f b p) := by
  obtain hcnt | hcnt := cnt_eq_zero_or_one hroom
  · rw [acc2_first f b p hcnt]
    exact .first hneed hcnt
  · rw [acc2_second f b p hcnt]
    exact .second hneed hcnt _

theorem DataReply.sppEnd_acc2 (f : Channel → Data7 → Data7 → Message) (hroom : p.cnt.toNat < 2) :
    DataReply sppRs b p .songPositionPointer (sppEnd sppRs (Machine.acc2 f b p)) := by
  obtain hcnt | hcnt := cnt_eq_zero_or_one hroom
  · rw [acc2_first f b p hcnt, sppEnd_partial]
    exact .first rfl hcnt
  · rw [acc2_second f b p hcnt]
    cases sppRs with
    | true => rw [sppEnd_keep]; exact .second rfl hcnt _
    | false => rw [sppEnd_clear]; exact .songPositionEnd rfl rfl hcnt _

end

/-- The routing of 41_data_bytes.md R140 with the kind as an argument: what the row of kind `k` does with a byte the
checks let through, whatever kind is pending. -/
def takeByte (sppRs : Bool) (k : Kind) (b : Byte) : Parser → Reply :=
  match k with
  | .noteOff => acc2 assembleNoteOff b
  | .noteOn => acc2 assembleNoteOn b
  | .polyKeyPressure => acc2 assemblePolyKeyPressure b
  | .controlChange => acc2 assembleControlChange b
  | .pitchBend => acc2 assemblePitchBend b
  | .songPositionPointer => fun p => sppEnd sppRs (acc2 assembleSongPositionPointer b p)
  | .programChange => oneKeep assembleProgramChange b
  | .channelPressure => oneKeep assembleChannelPressure b
  | .songSelect => oneClear assembleSongSelect b
  | .mtcQuarterFrame => oneClear assembleMtcQuarterFrame b
  | _ => overflowGuard

theorem routeData_eq_takeByte (sppRs : Bool) (b : Byte) (p : Parser) :
    routeData sppRs b p = takeByte sppRs p.pk b p := by
  unfold routeData takeByte
  cases p.pk <;> rfl

/-- A data row is the decode step of the checks and its own routing, whatever kind is pending. -/
theorem exec_dataInstr (k : Kind) (b : Byte) (s : State) :
    exec (dataInstr k b) s = decodeWith (dataChecks (need k) b (takeByte s.params.sppRs k b)) s := by
  cases k <;> rfl

section

variable (sppRs : Bool) (b : Byte) (p : Parser)

theorem dataReply_takeByte {p : Parser} (k : Kind) (hroom : p.cnt.toNat < need k) :
    DataReply sppRs b p k (takeByte sppRs k b p) := by
  cases k with
  | noteOff | noteOn | polyKeyPressure | controlChange | pitchBend => exact .acc2 _ rfl hroom
  | songPositionPointer => exact .sppEnd_acc2 _ hroom
  | programChange | channelPressure => exact .kept (by decide) (cnt_eq_zero hroom) _
  | songSelect | mtcQuarterFrame => exact .cleared (by decide) (cnt_eq_zero hroom) _
  | _ => exact .absorbed

/-- All a row can do with a data byte. -/
theorem dataReply_dataChecks {b : Byte} (hb : b.toNat ≤ 127) (k : Kind) :
    DataReply sppRs b p k (dataChecks (need k) b (takeByte sppRs k b) p) := by
  by_cases hfull : need k ≤ p.cnt.toNat
  · rw [dataChecks_full _ b _ p hb hfull]
    exact .absorbed
  · rw [dataChecks_take _ b _ p hb (Nat.not_le.mp hfull)]
    exact dataReply_takeByte sppRs b k (Nat.not_le.mp hfull)

theorem dataStep_eq_dataChecks : dataStep sppRs b p = dataChecks (need p.pk) b (takeByte sppRs p.pk b) p :=
  dataChecks_congr _ b (routeData_eq_takeByte sppRs b p)

/-- All a byte of the stream can do: the replies to a status byte, or those of the pending kind to a data byte. -/
theorem parseByte_reply (ps : Params) :
    StatusReply p (parseByte ps b p) ∨ b.toNat ≤ 127 ∧ DataReply ps.sppRs b p p.pk (parseByte ps b p) := by
  cases hb : isStatusByte b with
  | true =>
    rw [parseByte_of_status _ _ hb]
    exact .inl (statusReply_statusStep _ b p)
  | false =>
    rw [parseByte_of_data _ _ hb, dataStep_eq_dataChecks]
    exact .inr ⟨(not_status_iff b).mp hb, dataReply_dataChecks _ p ((not_status_iff b).mp hb) _⟩

end

namespace DataReply

variable {sppRs : Bool} {b : Byte} {p : Parser} {k : Kind} {r : Reply}

theorem keeps_channels (h : DataReply sppRs b p k r) : r.1.pch = p.pch ∧ r.1.ach = p.ach := by
  cases h <;> exact ⟨rfl, rfl⟩

/-- `pk` is written by the two kinds that clear running status, and by Song Position Pointer without SPP_RS. -/
theorem kind_of_pk_ne (h : DataReply sppRs b p k r) (hpk : r.1.pk ≠ p.pk) :
    k ∈ [.songSelect, .mtcQuarterFrame] ∨ k = .songPositionPointer ∧ sppRs = false := by
  cases h with
  | songPositionEnd hk hrs _ _ => exact .inr ⟨hk, hrs⟩
  | cleared hk _ _ => exact .inl hk
  | absorbed | first _ _ | second _ _ _ | kept _ _ _ => exact absurd rfl hpk

/-- The buffer is written by the kinds that take two data bytes. -/
theorem keeps_buffer (h : DataReply sppRs b p k r) (hneed : need k ≠ 2) :
    r.1.buf0 = p.buf0 ∧ r.1.buf1 = p.buf1 := by
  cases h with
  | first h _ | second h _ _ => exact absurd h hneed
  | songPositionEnd hk _ _ _ => exact absurd (congrArg need hk) hneed
  | absorbed | kept _ _ _ | cleared _ _ _ => exact ⟨rfl, rfl⟩

end DataReply

/-- A stream byte leaves the active channel alone (42_host_operations.md R186). -/
theorem parseByte_ach (ps : Params) (b : Byte) (p : Parser) : (parseByte ps b p).1.ach = p.ach := by
  obtain h | ⟨-, h⟩ := parseByte_reply b p ps
  · exact h.keeps_active_and_buffer.1
  · exact h.keeps_channels.2

/-! ## Every instruction -/

/-- The row of a stream byte is one decode step. -/
theorem exec_eq_decodeWith {i : Instr} (hi : i.format ≠ .host) (s : State) : ∃ f, exec i s = decodeWith f s := by
  cases hf : i.format with
  | status =>
    obtain ⟨f, hexec, -⟩ := exec_status hf s
    exact ⟨f, hexec⟩
  | data =>
    obtain ⟨k, b, rfl⟩ := exists_eq_dataInstr hf
    exact ⟨_, exec_dataInstr k b s⟩
  | host => exact absurd hf hi

theorem initialised_of_exec_next {i : Instr} {s t : State} (h : exec i s = .next t) (hi : i ≠ .init) (hr : i ≠ .reset) :
    s.initialised = true := by
  cases hinit : s.initialised with
  | true => rfl
  | false =>
    rw [exec_before_init i s hinit hi hr] at h
    cases h

/-- A data row that answers next has ignored a byte above 127 or taken it in one of the ways of `DataReply`. -/
theorem dataInstr_exec_next {k : Kind} {b : Byte} {s t : State} (h : exec (dataInstr k b) s = .next t) :
    t.parser = s.parser ∨ DataReply s.params.sppRs b s.parser k (t.parser, t.result) := by
  rw [exec_dataInstr] at h
  obtain ⟨-, rfl⟩ := decodeWith_eq_next h
  by_cases hb : b.toNat ≤ 127
  · exact .inr (dataReply_dataChecks _ _ hb k)
  · left
    rw [dataChecks_above _ b _ _ (Nat.not_le.mp hb)]
    rfl

/-! ## The statements -/

/-- Settles O11: init and reset run from every state, every other instruction is past its one check. -/
theorem everyInstructionRunsAfterInit : Obligations.EveryInstructionRunsAfterInit := by
  intro i s hinit
  by_cases hf : i.format = .host
  · cases i with
    | init | reset => exact ⟨_, reinit_eq s, rfl⟩
    | setac c => exact ⟨_, exec_setac_next c s hinit, hinit⟩
    | getac => exact ⟨_, exec_getac_next s hinit, hinit⟩
    | decode b => exact ⟨_, exec_decode_next b s hinit, hinit⟩
    | _ => cases hf
  · obtain ⟨f, hexec⟩ := exec_eq_decodeWith hf s
    exact ⟨_, hexec.trans (decodeWith_next f s hinit), hinit⟩

/-- Settles O37: every operation ends in a record update of the block, its readiness and what is shown. -/
theorem instructionsLeaveTheSurroundingsAlone : Obligations.InstructionsLeaveTheSurroundingsAlone := by
  intro i s t h
  by_cases hf : i.format = .host
  · cases i with
    | init | reset => cases h; exact ⟨rfl, rfl, rfl, rfl⟩
    | setac c =>
      rw [exec_setac_next c s (initialised_of_exec_next h nofun nofun)] at h
      cases h; exact ⟨rfl, rfl, rfl, rfl⟩
    | getac =>
      rw [exec_getac_next s (initialised_of_exec_next h nofun nofun)] at h
      cases h; exact ⟨rfl, rfl, rfl, rfl⟩
    | decode b =>
      obtain ⟨-, rfl⟩ := decodeWith_eq_next h
      exact ⟨rfl, rfl, rfl, rfl⟩
    | _ => cases hf
  · obtain ⟨f, hexec⟩ := exec_eq_decodeWith hf s
    obtain ⟨-, rfl⟩ := decodeWith_eq_next (hexec.symm.trans h)
    exact ⟨rfl, rfl, rfl, rfl⟩

/-- Settles O32: the byte above 127 is caught by the first check of every data row. -/
theorem dataPathIgnoresBytesAbove127 : Obligations.DataPathIgnoresBytesAbove127 := by
  intro i s hf hwf hinit
  obtain ⟨k, b, rfl⟩ := exists_eq_dataInstr hf
  have hb : ¬ b.toNat ≤ 127 := by
    rw [← not_status_iff]
    simpa [isDataByte_eq_not] using hwf
  rw [exec_dataInstr, decodeWith_next _ s hinit, dataChecks_above _ b _ _ (Nat.not_le.mp hb)]
  rfl

section

variable {i : Instr} {s t : State}

theorem exec_transparent_keeps_parser (h : exec i s = .next t)
    (hi : i ∈ realTimeRows.map Prod.fst ∨ i ∈ undefinedRows ∨ i = .getac) : t.parser = s.parser := by
  obtain hi | hi | rfl := hi
  · obtain ⟨row, hrow, rfl⟩ := List.mem_map.mp hi
    rw [exec_realTimeRow hrow] at h
    obtain ⟨-, rfl⟩ := decodeWith_eq_next h
    rfl
  · rw [exec_undefinedRow hi] at h
    obtain ⟨-, rfl⟩ := decodeWith_eq_next h
    rfl
  · rw [exec_getac_next s (initialised_of_exec_next h nofun nofun)] at h
    cases h
    rfl

theorem exec_status_keeps_active_and_buffer (h : exec i s = .next t) (hi : i.format = .status) :
    t.parser.ach = s.parser.ach ∧ t.parser.buf0 = s.parser.buf0 ∧ t.parser.buf1 = s.parser.buf1 := by
  obtain ⟨f, hexec, hreply⟩ := exec_status hi s
  obtain ⟨-, rfl⟩ := decodeWith_eq_next (hexec.symm.trans h)
  exact hreply.keeps_active_and_buffer

theorem exec_data_keeps_channels (h : exec i s = .next t) (hi : i.format = .data) :
    t.parser.pch = s.parser.pch ∧ t.parser.ach = s.parser.ach := by
  obtain ⟨k, b, rfl⟩ := exists_eq_dataInstr hi
  obtain hsame | hreply := dataInstr_exec_next h
  · rw [hsame]; exact ⟨rfl, rfl⟩
  · exact hreply.keeps_channels

theorem exec_data_writer_of_pk (h : exec i s = .next t) (hi : i.format = .data) (hpk : t.parser.pk ≠ s.parser.pk) :
    ∃ b, i = .dataSongSelect b ∨ i = .dataMtcQuarterFrame b ∨
      (i = .dataSongPositionPointer b ∧ s.params.sppRs = false) := by
  obtain ⟨k, b, rfl⟩ := exists_eq_dataInstr hi
  obtain hsame | hreply := dataInstr_exec_next h
  · exact absurd (congrArg Parser.pk hsame) hpk
  · refine ⟨b, ?_⟩
    obtain hk | ⟨rfl, hrs⟩ := hreply.kind_of_pk_ne hpk
    · fin_cases hk
      · exact .inl rfl
      · exact .inr (.inl rfl)
    · exact .inr (.inr ⟨rfl, hrs⟩)

/-- A kind that takes two data bytes has its row in `twoByteRows`. -/
theorem dataInstr_twoByteRow {k : Kind} (hneed : need k = 2) (b : Byte) :
    ∃ row ∈ twoByteRows, dataInstr k b = row.1 b := by
  cases k with
  | noteOff | noteOn | polyKeyPressure | controlChange | pitchBend | songPositionPointer =>
    simp [twoByteRows, dataInstr]
  | _ => cases hneed

theorem exec_data_keeps_buffer (h : exec i s = .next t) (hi : i.format = .data)
    (hrows : ∀ row ∈ twoByteRows, ∀ b, i ≠ row.1 b) :
    t.parser.buf0 = s.parser.buf0 ∧ t.parser.buf1 = s.parser.buf1 := by
  obtain ⟨k, b, rfl⟩ := exists_eq_dataInstr hi
  obtain hsame | hreply := dataInstr_exec_next h
  · rw [hsame]; exact ⟨rfl, rfl⟩
  · refine hreply.keeps_buffer fun hneed => ?_
    obtain ⟨row, hrow, heq⟩ := dataInstr_twoByteRow hneed b
    exact hrows row hrow b heq

end

/-- Settles O38: one frame lemma per clause. -/
theorem fieldsChangeOnlyByTheirWriters : Obligations.FieldsChangeOnlyByTheirWriters := by
  intro i s t h
  refine ⟨fun hi => ?_, ?_, fun hi => ?_, ?_, fun hi => (exec_status_keeps_active_and_buffer h hi).2,
    fun hi => (exec_data_keeps_channels h hi).1, exec_data_writer_of_pk h, exec_data_keeps_buffer h⟩
  · exact exec_transparent_keeps_parser h (by simpa [realTimeRows, undefinedRows, or_assoc] using hi)
  · rintro c rfl
    rw [exec_setac_next c s (initialised_of_exec_next h nofun nofun)] at h
    cases h
    rfl
  · cases hf : i.format with
    | status => exact (exec_status_keeps_active_and_buffer h hf).1
    | data => exact (exec_data_keeps_channels h hf).2
    | host => exact absurd hf hi
  · rintro b rfl
    obtain ⟨-, rfl⟩ := decodeWith_eq_next h
    exact parseByte_ach _ b _

end Sys2Proof.Machine
end

section
/-! PROOFS. One activation of the ports and the step around it (42_host_operations.md): its whole effect on the block as
one function of its strobes, what it does before the first init, and the operations the host decoder names. -/

namespace Sys2Proof.Machine

/-! ## A byte and the active channel -/

/-- A rule of the block that neither reads nor writes the active channel (42_host_operations.md R186). -/
def ActiveBlind (f : Parser → Reply) : Prop :=
  ∀ (c : ChanCode) (p : Parser), f { p with ach := c } = ({ (f p).1 with ach := c }, (f p).2)

theorem activeBlind_statusStep (m : List MapRow) (b : Byte) : ActiveBlind (statusStep m b) := by
  intro c p
  unfold statusStep
  cases lookupStatus m b <;> rfl

theorem activeBlind_acc2 (f : Channel → Data7 → Data7 → Message) (b : Byte) : ActiveBlind (acc2 f b) := by
  intro c p
  simp only [acc2, bufWrite]
  split_ifs <;> rfl

theorem ActiveBlind.sppEnd (sppRs : Bool) {f : Parser → Reply} (hf : ActiveBlind f) :
    ActiveBlind fun p => sppEnd sppRs (f p) := by
  intro c p
  simp only [Machine.sppEnd, hf c p]
  split_ifs <;> rfl

theorem activeBlind_takeByte (sppRs : Bool) (k : Kind) (b : Byte) : ActiveBlind (takeByte sppRs k b) := by
  cases k with
  | noteOff | noteOn | polyKeyPressure | controlChange | pitchBend => exact activeBlind_acc2 _ b
  | songPositionPointer => exact (activeBlind_acc2 _ b).sppEnd sppRs
  | _ => exact fun _ _ => rfl

theorem ActiveBlind.dataChecks (n : Nat) (b : Byte) {take : Parser → Reply} (htake : ActiveBlind take) :
    ActiveBlind (dataChecks n b take) := by
  intro c p
  simp only [Machine.dataChecks, htake c p]
  split_ifs <;> rfl

/-- The transition of one byte does not meet the active channel. -/
theorem activeBlind_parseByte (ps : Params) (b : Byte) : ActiveBlind (parseByte ps b) := by
  intro c p
  cases hb : isStatusByte b with
  | true => simpa only [parseByte_of_status _ _ hb] using activeBlind_statusStep ps.statusMap b c p
  | false =>
    simpa only [parseByte_of_data _ _ hb, dataStep_eq_dataChecks] using
      (activeBlind_takeByte ps.sppRs p.pk b).dataChecks (need p.pk) b c p

/-- set_active_channel and a byte take effect in either order (42_host_operations.md R190). -/
theorem parseByte_writeActive (ps : Params) (b : Byte) (c : ChanCode) (p : Parser) :
    parseByte ps b (writeActive c p) = (writeActive c (parseByte ps b p).1, (parseByte ps b p).2) :=
  activeBlind_parseByte ps b _ p

/-! ## The whole effect of an activation -/

/-- What an activation does to the block after the first init (42_host_operations.md R190): init or reset alone,
otherwise set_active_channel and then the byte. -/
def activationReply (ps : Params) (a : Activation) (p : Parser) : Reply :=
  if a.opInit || a.opReset then (Parser.reset, none)
  else
    let q := if a.acWe then writeActive a.acWdata p else p
    if a.inValid then parseByte ps a.inByte q else (q, none)

/-- What a read in the activation returns: the active channel from before it (42_host_operations.md R187). -/
def activationRet (a : Activation) (p : Parser) : Option Channel :=
  if !(a.opInit || a.opReset) && a.acRead then some (readActive p) else none

section

variable {a : Activation} {s : State}

theorem activationReply_of_reinit (ps : Params) (p : Parser) (h : (a.opInit || a.opReset) = true) :
    activationReply ps a p = (Parser.reset, none) :=
  if_pos h

theorem activationRet_of_reinit (p : Parser) (h : (a.opInit || a.opReset) = true) : activationRet a p = none := by
  simp [activationRet, h]

theorem activate_of_reinit (h : (a.opInit || a.opReset) = true) (s : State) : activate a s = reinit s := by
  cases hi : a.opInit with
  | true => simp [activate, hi, exec_init]
  | false =>
    have hr : a.opReset = true := by simpa [hi] using h
    simp [activate, hi, hr, exec_reset]

theorem activate_of_no_reinit (h : (a.opInit || a.opReset) = false) (s : State) :
    activate a s =
      andThen (strobe a.acRead .getac s.quiet) fun read =>
      andThen (strobe a.acWe (.setac a.acWdata) read) fun written =>
      andThen (strobe a.inValid (decodeByte s.params.statusMap s.parser.pk a.inByte) written) fun decoded =>
      .next { decoded with ret := read.ret } := by
  obtain ⟨hi, hr⟩ := Bool.or_eq_false_iff.mp h
  simp [activate, hi, hr]

/-! The three strobes after the first init, each with what it shows last left open: `activate` overwrites it. -/

theorem strobe_getac (on : Bool) (hinit : s.initialised = true) :
    strobe on .getac s.quiet = .next { s.quiet with ret := if on then some (readActive s.parser) else none } := by
  cases on with
  | true => exact exec_getac_next s.quiet hinit
  | false => rfl

theorem strobe_setac (on : Bool) (c : ChanCode) (hinit : s.initialised = true) (hresult : s.result = none) :
    ∃ r, strobe on (.setac c) s =
      .next { s with parser := if on then writeActive c s.parser else s.parser, ret := r } := by
  cases on with
  | true =>
    refine ⟨none, (exec_setac_next c s hinit).trans ?_⟩
    simp only [State.quiet, hresult, if_true]
  | false => exact ⟨s.ret, rfl⟩

theorem strobe_byte (on : Bool) (b : Byte) (hinit : s.initialised = true) (hresult : s.result = none) :
    ∃ r, strobe on (decodeByte s.params.statusMap s.parser.pk b) s =
      .next { s with parser := (if on then parseByte s.params b s.parser else (s.parser, none)).1,
                     result := (if on then parseByte s.params b s.parser else (s.parser, none)).2, ret := r } := by
  cases on with
  | true => exact ⟨none, (exec_decode_eq_exec_decodeByte b s).symm.trans (exec_decode_next b s hinit)⟩
  | false =>
    refine ⟨s.ret, ?_⟩
    simp only [strobe, ← hresult, Bool.false_eq_true, if_false]

/-- After the first init every activation answers, with the effect above. -/
theorem activate_next (a : Activation) (hinit : s.initialised = true) :
    activate a s =
      .next { s with parser := (activationReply s.params a s.parser).1,
                     result := (activationReply s.params a s.parser).2,
                     ret := activationRet a s.parser } := by
  cases h : a.opInit || a.opReset with
  | true =>
    rw [activate_of_reinit h, reinit_eq, activationReply_of_reinit _ _ h, activationRet_of_reinit _ h, hinit]
  | false =>
    rw [activate_of_no_reinit h, strobe_getac a.acRead hinit, andThen_next]
    obtain ⟨r, hwritten⟩ := strobe_setac a.acWe a.acWdata
      (s := { s.quiet with ret := if a.acRead then some (readActive s.parser) else none }) hinit rfl
    rw [hwritten, andThen_next]
    have hpk : (if a.acWe then writeActive a.acWdata s.parser else s.parser).pk = s.parser.pk := by split <;> rfl
    obtain ⟨r', hdecoded⟩ := strobe_byte a.inValid a.inByte
      (s := { s.quiet with parser := if a.acWe then writeActive a.acWdata s.parser else s.parser, ret := r }) hinit rfl
    rw [← hpk]
    simp only [State.quiet] at hdecoded ⊢
    rw [hdecoded, andThen_next]
    simp [activationReply, activationRet, h]

/-! ## Before the first init -/

theorem decodeByte_ne_of_host (m : List MapRow) (pk : Kind) (b : Byte) {i : Instr} (hi : i.format = .host) :
    decodeByte m pk b ≠ i := by
  rintro rfl
  cases hb : isStatusByte b with
  | true => simp [decodeByte_of_status _ _ hb] at hi
  | false => simp [decodeByte_of_data _ _ hb] at hi

theorem strobe_before_init (on : Bool) {i : Instr} (hinit : s.initialised = false) (hi : i ≠ .init) (hr : i ≠ .reset) :
    strobe on i s = if on then .refused .beforeInit else .next s := by
  cases on with
  | true => exact exec_before_init i s hinit hi hr
  | false => rfl

/-- Before the first init an activation without init and reset answers only if it has no strobe at all. -/
theorem activate_before_init (hinit : s.initialised = false) (h : (a.opInit || a.opReset) = false) :
    activate a s = if a.inValid || a.acWe || a.acRead then .refused .beforeInit else .next s.quiet := by
  have hquiet : s.quiet.initialised = false := hinit
  rw [activate_of_no_reinit h, strobe_before_init _ (i := .getac) hquiet nofun nofun]
  cases a.acRead with
  | true => simp
  | false =>
    simp only [Bool.false_eq_true, if_false, andThen_next]
    rw [strobe_before_init _ (i := .setac _) hquiet nofun nofun]
    cases a.acWe with
    | true => simp
    | false =>
      simp only [Bool.false_eq_true, if_false, andThen_next]
      rw [strobe_before_init _ hquiet (decodeByte_ne_of_host _ _ _ rfl) (decodeByte_ne_of_host _ _ _ rfl)]
      cases a.inValid <;> rfl

end

/-! ## The activation of one operation -/

/-- Before the first init an activation and the one operation it names are refused alike. -/
theorem activate_eq_exec_of_initialised {a : Activation} {i : Instr} {s : State} (hi : i ≠ .init) (hr : i ≠ .reset)
    (hno : (a.opInit || a.opReset) = false) (hstrobe : (a.inValid || a.acWe || a.acRead) = true)
    (h : s.initialised = true → activate a s = exec i s) : activate a s = exec i s := by
  cases hinit : s.initialised with
  | true => exact h hinit
  | false => rw [activate_before_init hinit hno, if_pos hstrobe, exec_before_init i s hinit hi hr]

/-- An activation with one strobe is that operation (42_host_operations.md R187). -/
theorem activate_of_hostOp {a : Activation} {i : Instr} (ha : hostOp a = .instr i) (s : State) :
    activate a s = exec i s := by
  obtain ⟨opInit, opReset, inValid, inByte, acWe, acWdata, acRead⟩ := a
  simp only [hostOp] at ha
  split at ha <;> cases ha
  · rfl
  · rfl
  · exact activate_eq_exec_of_initialised nofun nofun rfl rfl fun hinit =>
      (activate_next _ hinit).trans (exec_setac_next _ s hinit).symm
  · exact activate_eq_exec_of_initialised nofun nofun rfl rfl fun hinit =>
      (activate_next _ hinit).trans (exec_getac_next s hinit).symm
  · exact activate_eq_exec_of_initialised nofun nofun rfl rfl fun hinit =>
      (activate_next _ hinit).trans (exec_decode_next _ s hinit).symm

/-- What the decoder names for an activation is what the activation does. -/
theorem activate_of_decoded {a : Activation} {i : Instr} {s : State}
    (ha : decodeActivation s.params.statusMap s.parser.pk a = .instr i ∨ hostOp a = .instr i) :
    activate a s = exec i s := by
  obtain ha | ha := ha
  · unfold decodeActivation at ha
    split at ha
    · next b hb =>
      obtain rfl := Decoded.instr.inj ha
      rw [activate_of_hostOp hb, exec_decode_eq_exec_decodeByte]
    · exact activate_of_hostOp ha s
  · exact activate_of_hostOp ha s

/-! ## The step around it -/

theorem step_idle {s : State} (h : s.input = []) : step s = settle s (activate {} s) := by
  simp [step, takeInput, h]

theorem step_clash {s : State} {a b : Activation} {rest : List Input} (h : s.input = .clash a b :: rest) :
    step s = .refused .unsynchronisedHosts := by
  simp [step, takeInput, h]

@[simp] theorem settle_refused (before : State) (r : Refusal) : settle before (.refused r) = .refused r := rfl

/-- An activation with no strobe shows nothing and holds the block, before the first init and after. -/
theorem activate_no_strobe (s : State) : activate {} s = .next s.quiet := rfl

/-! ## The statements -/

/-- Settles O7: the activation is the instruction it decodes to, and the step adds its own around it. -/
theorem stepRunsTheDecodedInstruction : Obligations.StepRunsTheDecodedInstruction := by
  intro s a rest i hinput ha
  have hstep : step s = settle s (exec i { s with input := rest }) := by
    rw [step_one s a rest hinput, activate_of_decoded (s := { s with input := rest }) ha]
  refine ⟨fun t ht => ?_, fun r hr => ?_⟩
  · rw [hstep, ht, settle_next]
    rfl
  · rw [hstep, hr, settle_refused]

/-- Settles O8: no strobe is an activation that shows nothing, a clash is never taken. -/
theorem idleStepHoldsAndClashIsRefused : Obligations.IdleStepHoldsAndClashIsRefused := by
  refine ⟨fun s h => ?_, fun s a b rest h => step_clash h⟩
  rw [step_idle h, activate_no_strobe, settle_next]
  rfl

/-- Settles O9: every strobe but init and reset is refused, and those two need nothing of the state. -/
theorem onlyInitAndResetRunBeforeInit : Obligations.OnlyInitAndResetRunBeforeInit := by
  intro s a rest hinput hinit
  refine ⟨fun h hstrobe => ?_, fun h => ?_⟩
  · rw [step_one s a rest hinput, activate_before_init (s := { s with input := rest }) hinit h, if_pos hstrobe,
      settle_refused]
  · rw [step_one s a rest hinput, activate_of_reinit h, reinit_eq, settle_next]
    exact ⟨_, rfl, rfl, rfl⟩

/-- Settles O10: the activation's effect on the block, read off for the two cases. -/
theorem strobesOfOneStepCombine : Obligations.StrobesOfOneStepCombine := by
  intro s a rest hinput hinit
  rw [step_one s a rest hinput, activate_next (s := { s with input := rest }) a hinit, settle_next]
  refine ⟨fun h => ?_, fun h hwe hvalid => ?_⟩
  · rw [activationReply_of_reinit _ _ h, activationRet_of_reinit _ h]
    rfl
  · refine ⟨_, _, exec_decode_next _ _ hinit, exec_setac_next _ _ hinit, ?_⟩
    simp only [activationReply, activationRet, h, hwe, hvalid, parseByte_writeActive, readActive, if_true,
      Bool.not_false, Bool.true_and, Bool.false_eq_true, if_false]
    rfl

end Sys2Proof.Machine
end

section
/-! PROOFS. The remaining statements of single rows: system common and SysEx status bytes, the kinds of data bytes with
a rule of their own, the overflow guard, the host operations and the output ports. -/

namespace Sys2Proof.Machine

/-! ## Status bytes and reset -/

/-- Settles O13: the fields of the reset state as it is written. -/
theorem resetValuesOfEveryField : Obligations.ResetValuesOfEveryField :=
  ⟨rfl, rfl, rfl, rfl, rfl, rfl⟩

/-- Settles O16: the three rows are the decode step of `SC_PAYLOAD_STATUS`. -/
theorem systemCommonPayloadStatusSetsRunningStatus : Obligations.SystemCommonPayloadStatusSetsRunningStatus := by
  intro row hrow s hinit
  have hexec : exec row.1 s = decodeWith (scPayloadStatus row.2) s := by fin_cases hrow <;> rfl
  exact hexec.trans (decodeWith_next _ s hinit)

/-- Settles O17: the row is the decode step of the SysEx start. -/
theorem sysExStartCompletesAndOpensSysEx : Obligations.SysExStartCompletesAndOpensSysEx :=
  fun s hinit => decodeWith_next sysexStatus s hinit

/-- Settles O18: the two rows are the decode step of a status with no payload. -/
theorem tuneRequestAndEndOfExclusiveClearAndComplete : Obligations.TuneRequestAndEndOfExclusiveClearAndComplete := by
  intro row hrow s hinit
  have hexec : exec row.1 s = decodeWith (scBareStatus row.2) s := by fin_cases hrow <;> rfl
  exact hexec.trans (decodeWith_next _ s hinit)

/-! ## Data bytes -/

/-- A data row with room for the byte is the decode step of its own routing. -/
theorem exec_dataInstr_room {k : Kind} {b : Byte} {s : State} (hb : b.toNat ≤ 127) (hinit : s.initialised = true)
    (hroom : s.parser.cnt.toNat < need k) :
    exec (dataInstr k b) s =
      .next { s with parser := (takeByte s.params.sppRs k b s.parser).1,
                     result := (takeByte s.params.sppRs k b s.parser).2, ret := none } := by
  rw [exec_dataInstr, decodeWith_next _ s hinit, dataChecks_take _ b _ _ hb hroom]

/-- A data row with no room for the byte clears the count. -/
theorem exec_dataInstr_full {k : Kind} {b : Byte} {s : State} (hb : b.toNat ≤ 127) (hinit : s.initialised = true)
    (hfull : need k ≤ s.parser.cnt.toNat) :
    exec (dataInstr k b) s = .next { s with parser := { s.parser with cnt := 0 }, result := none, ret := none } := by
  rw [exec_dataInstr, decodeWith_next _ s hinit, dataChecks_full _ b _ _ hb hfull]
  rfl

/-- The payload of a Control Change pair, apart from its channel (41_data_bytes.md R146). -/
theorem assembleControlChange_eq (ch : Channel) (x y : Data7) :
    assembleControlChange ch x y = ⟨ch, if 120 ≤ x.toNat then channelMode x y else .controlChange x y⟩ := by
  unfold assembleControlChange
  split <;> rfl

/-- Settles O25: the row of O21; its message is the pair's, told by the first byte. -/
theorem controlChangeIsReclassifiedFromController120 : Obligations.ControlChangeIsReclassifiedFromController120 := by
  intro b s hb
  have hmem : (Instr.dataControlChange, Kind.controlChange, assembleControlChange) ∈ twoByteRows := by
    simp [twoByteRows]
  obtain ⟨hfirst, hsecond⟩ := twoDataByteKindsAccumulateAndComplete _ hmem b s hb nofun
  refine ⟨decodeByte_of_twoByteRow hmem _ hb, hfirst, fun hpending => ?_⟩
  have hexec := hsecond hpending
  simp only [assembleControlChange_eq] at hexec
  refine ⟨_, hexec, ?_⟩
  generalize data7 s.parser.buf0 = x
  refine ⟨fun h => if_neg (Nat.not_le.mpr h), ?_, ?_, ?_, ?_, ?_, ?_, ?_, ?_⟩ <;> (rintro rfl; rfl)

theorem takeByte_songPositionPointer_first (sppRs : Bool) (b : Byte) {p : Parser} (hcnt : p.cnt = 0) :
    takeByte sppRs .songPositionPointer b p = ({ p with buf0 := b, cnt := 1 }, none) := by
  simp only [takeByte, acc2_first _ b p hcnt, sppEnd_partial]

/-- The pair completes; SPP_RS alone decides whether running status survives it (41_data_bytes.md R149). -/
theorem takeByte_songPositionPointer_second (sppRs : Bool) (b : Byte) {p : Parser} (hcnt : p.cnt = 1) :
    takeByte sppRs .songPositionPointer b p =
      ({ p with buf1 := b, cnt := 0, pk := if sppRs then p.pk else .none },
       some ⟨none, .songPositionPointer (v14 (data7 p.buf0) (data7 b))⟩) := by
  cases sppRs <;> simp only [takeByte, acc2_second _ b p hcnt, sppEnd_keep, sppEnd_clear] <;> rfl

/-- Settles O26: the first byte is held as of every pair, the second completes under either value of SPP_RS. -/
theorem songPositionPointerUnderBothReadings : Obligations.SongPositionPointerUnderBothReadings := by
  intro b s hb
  have hmem : (Instr.dataSongPositionPointer, Kind.songPositionPointer) ∈ dataRows := by simp [dataRows]
  refine ⟨decodeByte_of_dataRow hmem _ hb, fun ⟨hinit, _, hcnt⟩ => ?_, fun ⟨hinit, hpk, hcnt⟩ => ?_⟩
  · refine (exec_dataInstr_room (k := .songPositionPointer) hb hinit (by simp [hcnt, need])).trans ?_
    rw [takeByte_songPositionPointer_first _ b hcnt]
  · refine (exec_dataInstr_room (k := .songPositionPointer) hb hinit (by simp [hcnt, need])).trans ?_
    rw [takeByte_songPositionPointer_second _ b hcnt, hpk]
    rfl

/-- Settles O27: with no byte held each row takes the byte at once, and its reply is the fields it was given. -/
theorem oneByteChannelKindsKeepRunningStatus : Obligations.OneByteChannelKindsKeepRunningStatus := by
  intro row hrow b s hb
  have hmem : (row.1, row.2.1) ∈ dataRows := by fin_cases hrow <;> simp [dataRows]
  refine ⟨decodeByte_of_dataRow hmem _ hb, fun ⟨hinit, _, hcnt⟩ => ?_⟩
  have hneed : need row.2.1 = 1 := by fin_cases hrow <;> rfl
  have htake : takeByte s.params.sppRs row.2.1 b s.parser =
      (s.parser, some ⟨chanValue s.parser.pch, row.2.2 (data7 b)⟩) := by fin_cases hrow <;> rfl
  rw [← dataInstr_of_dataRow hmem, exec_dataInstr_room hb hinit (by simp [hcnt, hneed]), htake]

/-- The two halves of a data byte as numbers (30_encoding.md R76). -/
theorem nibbles_eq_ofNat (b : Byte) :
    highNibble b = BitVec.ofNat 4 (b.toNat / 16) ∧ lowNibble b = BitVec.ofNat 4 b.toNat := by
  revert b; decide

/-- Settles O28: with no byte held each row takes the byte at once and clears `pk` alone. -/
theorem songSelectAndMtcClearRunningStatus : Obligations.SongSelectAndMtcClearRunningStatus := by
  intro b s hb
  have hsong : (Instr.dataSongSelect, Kind.songSelect) ∈ dataRows := by simp [dataRows]
  have hmtc : (Instr.dataMtcQuarterFrame, Kind.mtcQuarterFrame) ∈ dataRows := by simp [dataRows]
  refine ⟨decodeByte_of_dataRow hsong _ hb, decodeByte_of_dataRow hmtc _ hb, fun ⟨hinit, _, hcnt⟩ => ?_,
    fun ⟨hinit, _, hcnt⟩ => ?_⟩
  · exact exec_dataInstr_room (k := .songSelect) hb hinit (by simp [hcnt, need])
  · obtain ⟨hhigh, hlow⟩ := nibbles_eq_ofNat b
    rw [← hhigh, ← hlow]
    exact exec_dataInstr_room (k := .mtcQuarterFrame) hb hinit (by simp [hcnt, need])

/-- The kinds outside 10_state.md R24 share DATA_OTHER and need no byte. -/
theorem dataInstr_of_not_reachable {k : Kind} (hk : k ∉ reachableKinds) (b : Byte) :
    dataInstr k b = .dataOther b ∧ need k = 0 := by
  cases k with
  | none | noteOff | noteOn | polyKeyPressure | controlChange | programChange | channelPressure | pitchBend | sysexStart
  | mtcQuarterFrame | songPositionPointer | songSelect => exact absurd (by decide) hk
  | _ => exact ⟨rfl, rfl⟩

/-- Settles O30: the kind has no row of its own and needs no byte, so the guard takes it. -/
theorem dataUnderOtherKindsClearsTheCount : Obligations.DataUnderOtherKindsClearsTheCount := by
  intro b s hb hinit hpk
  obtain ⟨hrow, hneed⟩ := dataInstr_of_not_reachable hpk b
  refine ⟨(decodeByte_of_data _ _ ((not_status_iff b).mpr hb)).trans hrow, ?_⟩
  rw [← hrow]
  exact exec_dataInstr_full hb hinit (by simp [hneed])

/-- Settles O31: the guard stands before the routing of every row, and DECODE runs the row of the pending kind. -/
theorem overflowGuardClearsTheCount : Obligations.OverflowGuardClearsTheCount := by
  intro row hrow b s hb hinit hpk hfull
  refine ⟨exec_dataRow_full hrow hb hinit hpk hfull, ?_⟩
  rw [exec_decode_eq_exec_decodeByte, hpk, decodeByte_of_dataRow hrow _ hb]
  exact exec_dataRow_full hrow hb hinit hpk hfull

/-! ## Host operations -/

theorem chanCode_chanValue (c : ChanCode) :
    chanCode (chanValue c) = if c.msb then 0b10000#5 else 0#1 ++ c.extractLsb' 0 4 := by
  revert c; decide

/-- Settles O34: the code is read as a channel or None and written back as its canonical code. -/
theorem setActiveChannelStoresAChannelOrNone : Obligations.SetActiveChannelStoresAChannelOrNone := by
  intro c s hinit
  rw [← chanCode_chanValue]
  exact ⟨rfl, exec_setac_next c s hinit⟩

/-- Settles O36: each operation's effect overwrites its own. -/
theorem hostOperationsAreIdempotent : Obligations.HostOperationsAreIdempotent := by
  refine ⟨fun i hi s hinit => ?_, fun s hinit => ⟨_, exec_getac_next s hinit, rfl, exec_getac_next _ hinit⟩⟩
  obtain rfl | rfl | ⟨c, rfl⟩ := hi
  · exact ⟨_, reinit_eq s, rfl⟩
  · exact ⟨_, reinit_eq s, rfl⟩
  · exact ⟨_, exec_setac_next c s hinit, exec_setac_next c _ hinit⟩

/-! ## The output ports -/

section

variable {s : State} {m : Message}

theorem ports_of_message (h : s.result = some m) :
    s.ports.outValid = true ∧ s.ports.outKind = kindCode m.payload.kind ∧ s.ports.outCh = chanCode m.ch := by
  simp [State.ports, h, resultKind]

theorem outF1_of_message {x : Data7} (h : s.result = some m) (hx : m.payload.f1 = some x) : s.ports.outF1 = x := by
  simp [State.ports, h, hx]

theorem outF2_of_message {y : Data7} (h : s.result = some m) (hy : m.payload.f2 = some y) : s.ports.outF2 = y := by
  simp [State.ports, h, hy]

theorem outV14_of_message {v : Value14} (h : s.result = some m) (hv : m.payload.value14 = some v) :
    s.ports.outV14 = v := by
  simp [State.ports, h, hv]

theorem outMtc_of_message {x y : Nibble} (h : s.result = some m) (hxy : m.payload.mtc = some (x, y)) :
    s.ports.outMtcType = x ∧ s.ports.outMtcValue = y := by
  simp [State.ports, h, hxy]

end

/-- Settles O39: a port a kind has is read from the message's payload. -/
theorem portsShowTheResult : Obligations.PortsShowTheResult := by
  refine ⟨fun s h => ?_, fun s m h => ports_of_message h, fun p hp s ch x y h => ?_, fun p hp s ch x h => ?_,
    fun p hp s ch v h => ?_, fun s ch x y h => outMtc_of_message h rfl⟩
  · simp [State.ports, h, resultKind, kindCode]
  · have hfields : (p x y).f1 = some x ∧ (p x y).f2 = some y := by fin_cases hp <;> exact ⟨rfl, rfl⟩
    exact ⟨outF1_of_message h hfields.1, outF2_of_message h hfields.2⟩
  · have hfield : (p x).f1 = some x := by fin_cases hp <;> rfl
    exact outF1_of_message h hfield
  · have hfield : (p v).value14 = some v := by fin_cases hp <;> rfl
    exact outV14_of_message h hfield

end Sys2Proof.Machine
end

section
/-! PROOFS. INV1-INV5 (10_state.md R35): they hold at reset, and set_active_channel, every reply to a byte and so every
activation and every step keep them. -/

namespace Sys2Proof.Machine

/-! ## The block's operations -/

theorem none_not_voice : Kind.none ∉ channelVoiceKinds := by decide

theorem cleared_not_voice : ∀ k ∈ [Kind.songSelect, .mtcQuarterFrame], k ∉ channelVoiceKinds := by decide

namespace Parser.Inv

variable {p : Parser}

theorem reset : Parser.reset.Inv :=
  ⟨by decide, by decide, by decide, by decide, by decide, by decide, by decide⟩

theorem writeActive (h : p.Inv) (c : ChanCode) : (writeActive c p).Inv :=
  { h with active := chanCode_canonical _ }

theorem clearCount (h : p.Inv) : Parser.Inv { p with cnt := 0 } :=
  { h with countOfTwo := fun _ => .inl rfl, countOfOthers := fun _ => rfl }

/-- A status byte that opens a message of kind `k` with the channel of that kind. -/
theorem openKind (h : p.Inv) {k : Kind} {ch : Channel} (hk : k ∈ reachableKinds)
    (hch : k ∈ channelVoiceKinds ↔ ch.isSome = true) : Parser.Inv { p with pk := k, pch := chanCode ch, cnt := 0 } where
  kind := hk
  countOfTwo _ := .inl rfl
  countOfOthers _ := rfl
  channelOfVoice hvoice := by
    obtain ⟨c, rfl⟩ := Option.isSome_iff_exists.mp (hch.mp hvoice)
    exact msb_chanCode_some c
  channelOfOthers hother := by
    obtain rfl : ch = none := by simpa [hother] using hch
    rfl
  buffer := h.buffer
  active := h.active

/-- A kind outside the channel voice kinds that is complete clears running status: `pch` is already None. -/
theorem clearKind (h : p.Inv) (hk : p.pk ∉ channelVoiceKinds) (hcnt : p.cnt = 0) :
    Parser.Inv { p with pk := .none } where
  kind := List.mem_cons_self
  countOfTwo _ := .inl hcnt
  countOfOthers _ := hcnt
  channelOfVoice hvoice := absurd hvoice none_not_voice
  channelOfOthers _ := h.channelOfOthers hk
  buffer := h.buffer
  active := h.active

theorem statusReply (h : p.Inv) {r : Reply} (hr : StatusReply p r) : r.1.Inv := by
  cases hr with
  | voice k c hk => exact h.openKind (List.mem_cons_of_mem _ (List.mem_append_left _ hk)) (by simp [hk])
  | payload k hk => fin_cases hk <;> exact h.openKind (by decide) (by decide)
  | sysex | bare m => exact h.openKind (ch := none) (by decide) (by decide)
  | realTime m | undefined => exact h

theorem dataReply (h : p.Inv) {sppRs : Bool} {b : Byte} {r : Reply} (hb : b.toNat ≤ 127)
    (hr : DataReply sppRs b p p.pk r) : r.1.Inv := by
  have hmsb : b.msb = false := (not_status_iff b).mpr hb
  cases hr with
  | absorbed => exact h.clearCount
  | first hneed hcnt =>
    exact { h with countOfTwo := fun _ => .inr rfl, countOfOthers := fun hne => absurd hneed hne,
                   buffer := ⟨hmsb, h.buffer.2⟩ }
  | second hneed hcnt m => exact { h.clearCount with buffer := ⟨h.buffer.1, hmsb⟩ }
  | songPositionEnd hk hrs hcnt m =>
    have hcleared := h.clearCount.clearKind (by rw [hk]; decide) rfl
    exact { hcleared with buffer := ⟨h.buffer.1, hmsb⟩ }
  | kept hk hcnt m => exact h
  | cleared hk hcnt m => exact h.clearKind (cleared_not_voice _ hk) hcnt

theorem parseByte (h : p.Inv) (ps : Params) (b : Byte) : (parseByte ps b p).1.Inv := by
  obtain hr | ⟨hb, hr⟩ := parseByte_reply b p ps
  · exact h.statusReply hr
  · exact h.dataReply hb hr

theorem activationReply (h : p.Inv) (ps : Params) (a : Activation) : (activationReply ps a p).1.Inv := by
  unfold Machine.activationReply
  have hwritten : (if a.acWe then Machine.writeActive a.acWdata p else p).Inv := by
    split
    · exact h.writeActive _
    · exact h
  split
  · exact reset
  · dsimp only
    split
    · exact hwritten.parseByte ps _
    · exact hwritten

end Parser.Inv

/-! ## The step -/

/-- An activation from a block that meets the invariant, if it has a block yet, leaves one that does. -/
theorem activate_keeps_inv {a : Activation} {s t : State} (hs : s.Inv) (h : activate a s = .next t) : t.Inv := by
  cases hinit : s.initialised with
  | true =>
    rw [activate_next a hinit] at h
    cases h
    exact fun _ => (hs hinit).activationReply s.params a
  | false =>
    cases hre : a.opInit || a.opReset with
    | true =>
      rw [activate_of_reinit hre, reinit_eq] at h
      cases h
      exact fun _ => .reset
    | false =>
      rw [activate_before_init hinit hre] at h
      split at h
      · cases h
      · cases h
        exact hs

theorem settle_keeps_inv {before t : State} {o : Host.Outcome State Fault Refusal}
    (ho : ∀ u, o = .next u → u.Inv) (h : settle before o = .next t) : t.Inv := by
  obtain ⟨u, hu, ht⟩ := andThen_eq_next h
  cases ht
  exact ho u hu

/-! ## The statements -/

/-- Settles O40: the seven clauses at the reset values. -/
theorem resetMeetsTheBlockInvariant : Obligations.ResetMeetsTheBlockInvariant := fun _ => Parser.Inv.reset

/-- Settles O41: a step that answers is an activation, with none pending the one without strobes. -/
theorem everyStepKeepsTheBlockInvariant : Obligations.EveryStepKeepsTheBlockInvariant := by
  intro s t hs h
  cases hinput : s.input with
  | nil =>
    rw [step_idle hinput] at h
    exact settle_keeps_inv (fun u => activate_keeps_inv hs) h
  | cons x rest =>
    cases x with
    | one a =>
      rw [step_one s a rest hinput] at h
      exact settle_keeps_inv (fun u => activate_keeps_inv (s := { s with input := rest }) hs) h
    | clash a b =>
      rw [step_clash hinput] at h
      cases h

end Sys2Proof.Machine
end

section
/-! PROOFS. Runs of activations (42_host_operations.md R193): what a run shows and leaves, as functions of the
parameters and the block alone, and the statements about every run. -/

namespace Sys2Proof.Machine

/-! ## A run as a function of the block -/

/-- What each activation of a run shows, from the block `p` after the first init. -/
def showings (ps : Params) : List Activation → Parser → List Shown
  | [], _ => []
  | a :: as, p => ⟨(activationReply ps a p).2, activationRet a p⟩ :: showings ps as (activationReply ps a p).1

/-- The block a run leaves, from the block `p` after the first init. -/
def blockAfter (ps : Params) (as : List Activation) (p : Parser) : Parser :=
  as.foldl (fun q a => (activationReply ps a q).1) p

section

variable (ps : Params) (p : Parser)

@[simp] theorem blockAfter_nil : blockAfter ps [] p = p := rfl

theorem showings_cons (a : Activation) (as : List Activation) :
    showings ps (a :: as) p =
      ⟨(activationReply ps a p).2, activationRet a p⟩ :: showings ps as (activationReply ps a p).1 := rfl

theorem blockAfter_cons (a : Activation) (as : List Activation) :
    blockAfter ps (a :: as) p = blockAfter ps as (activationReply ps a p).1 := rfl

@[simp] theorem length_showings (as : List Activation) : (showings ps as p).length = as.length := by
  induction as generalizing p with
  | nil => rfl
  | cons a as ih => simp [showings_cons, ih]

theorem showings_append (as bs : List Activation) :
    showings ps (as ++ bs) p = showings ps as p ++ showings ps bs (blockAfter ps as p) := by
  induction as generalizing p with
  | nil => rfl
  | cons a as ih => simp [showings_cons, blockAfter_cons, ih]

theorem blockAfter_append (as bs : List Activation) :
    blockAfter ps (as ++ bs) p = blockAfter ps bs (blockAfter ps as p) :=
  List.foldl_append

end

/-- What is left of a run that began after the first init with the block `p`. -/
structure Settled (ps : Params) (as : List Activation) (p : Parser) (t : State) : Prop where
  parser : t.parser = blockAfter ps as p
  initialised : t.initialised = true
  params : t.params = ps

/-- A run begins with its first activation, and goes on from the block that one leaves. -/
theorem run_cons_of_activate {a : Activation} (as : List Activation) {s u : State}
    (h : activate a { s with input := [] } = .next u) :
    ∃ v : State, v.parser = u.parser ∧ v.initialised = u.initialised ∧ v.params = u.params ∧
      run (a :: as) s = (run as v).map fun r => (u.shown :: r.1, r.2) := by
  have hstep : step { s with input := [.one a] } = settle { s with input := [.one a] } (.next u) :=
    (step_one _ a [] rfl).trans (congrArg _ h)
  rw [settle_next] at hstep
  refine ⟨{ u with acRdata := chanCode (readActive s.parser), tick := s.tick + 1 }, rfl, rfl, rfl, ?_⟩
  simp only [run, hstep]
  rfl

/-- After the first init every run completes, and the block and the parameters alone decide what it shows and leaves. -/
theorem run_of_initialised (as : List Activation) {s : State} (hinit : s.initialised = true) :
    ∃ t, run as s = some (showings s.params as s.parser, t) ∧ Settled s.params as s.parser t := by
  induction as generalizing s with
  | nil => exact ⟨s, rfl, rfl, hinit, rfl⟩
  | cons a as ih =>
    obtain ⟨v, hparser, hv, hparams, hrun⟩ :=
      run_cons_of_activate as (activate_next (s := { s with input := [] }) a hinit)
    obtain ⟨t, ht, hsettled⟩ := ih (hv.trans hinit)
    rw [hparser, hparams] at ht hsettled
    refine ⟨t, by rw [hrun, ht]; rfl, hsettled.parser, hsettled.initialised, hsettled.params⟩

/-- A run that begins with init or reset completes from every state, and goes on from the reset block. -/
theorem run_of_reinit {a : Activation} (as : List Activation) (s : State) (h : (a.opInit || a.opReset) = true) :
    ∃ t, run (a :: as) s = some (reports none :: showings s.params as Parser.reset, t) ∧
      Settled s.params as Parser.reset t := by
  obtain ⟨v, hparser, hv, hparams, hrun⟩ :=
    run_cons_of_activate as ((activate_of_reinit h { s with input := [] }).trans (reinit_eq _))
  obtain ⟨t, ht, hsettled⟩ := run_of_initialised as hv
  rw [hparser, hparams] at ht hsettled
  exact ⟨t, by rw [hrun, ht]; rfl, hsettled⟩

/-! ## Runs of bytes -/

section

variable (ps : Params) (p : Parser)

@[simp] theorem sendBytes_nil : sendBytes [] = [] := rfl

@[simp] theorem sendBytes_cons (b : Byte) (bs : List Byte) :
    sendBytes (b :: bs) = byteActivation b :: sendBytes bs := rfl

theorem showings_byte (b : Byte) (as : List Activation) :
    showings ps (byteActivation b :: as) p =
      reports (parseByte ps b p).2 :: showings ps as (parseByte ps b p).1 := rfl

theorem blockAfter_byte (b : Byte) (as : List Activation) :
    blockAfter ps (byteActivation b :: as) p = blockAfter ps as (parseByte ps b p).1 := rfl

end

/-- A property every byte of the stream keeps, under which each byte's message is known, gives the whole run. -/
theorem run_bytes_of_invariant {ps : Params} {P : Parser → Prop} {report : Byte → Shown} {bs : List Byte}
    (hstep : ∀ b ∈ bs, ∀ p, P p → P (parseByte ps b p).1 ∧ reports (parseByte ps b p).2 = report b)
    {p : Parser} (hp : P p) :
    showings ps (sendBytes bs) p = bs.map report ∧ P (blockAfter ps (sendBytes bs) p) := by
  induction bs generalizing p with
  | nil => exact ⟨rfl, hp⟩
  | cons b bs ih =>
    obtain ⟨hnext, hreport⟩ := hstep b List.mem_cons_self p hp
    obtain ⟨hshow, hblock⟩ := ih (fun c hc => hstep c (List.mem_cons_of_mem _ hc)) hnext
    rw [sendBytes_cons, showings_byte, blockAfter_byte, hreport, hshow]
    exact ⟨rfl, hblock⟩

/-- A relation of two blocks that every byte keeps with one message on both sides carries through the whole run. -/
theorem run_bytes_of_simulation {ps : Params} {R : Parser → Parser → Prop}
    (hstep : ∀ b p q, R p q →
      R (parseByte ps b p).1 (parseByte ps b q).1 ∧ (parseByte ps b p).2 = (parseByte ps b q).2)
    (bs : List Byte) {p q : Parser} (h : R p q) :
    showings ps (sendBytes bs) p = showings ps (sendBytes bs) q ∧
      R (blockAfter ps (sendBytes bs) p) (blockAfter ps (sendBytes bs) q) := by
  induction bs generalizing p q with
  | nil => exact ⟨rfl, h⟩
  | cons b bs ih =>
    obtain ⟨hnext, hmessage⟩ := hstep b p q h
    obtain ⟨hshow, hblock⟩ := ih hnext
    simp only [sendBytes_cons, showings_byte, blockAfter_byte, hmessage, hshow]
    exact ⟨trivial, hblock⟩

theorem blockAfter_bytes_ach (ps : Params) (bs : List Byte) (p : Parser) :
    (blockAfter ps (sendBytes bs) p).ach = p.ach := by
  induction bs generalizing p with
  | nil => rfl
  | cons b bs ih => rw [sendBytes_cons, blockAfter_byte, ih, parseByte_ach]

/-! ## The statements about every run -/

/-- Settles O43: a run is the function `showings` of its activations. -/
theorem everyRunCompletesAfterInit : Obligations.EveryRunCompletesAfterInit := by
  intro as s hinit
  obtain ⟨t, hrun, hsettled⟩ := run_of_initialised as hinit
  exact ⟨_, t, hrun, length_showings _ _ as, hsettled.initialised⟩

/-- Settles O14: both runs go on from the reset block under the same parameters. -/
theorem resetThenRunIsInitThenRun : Obligations.ResetThenRunIsInitThenRun := by
  intro as s s' hparams
  obtain ⟨t, hrun, hsettled⟩ := run_of_reinit (a := { opReset := true }) as s rfl
  obtain ⟨t', hrun', hsettled'⟩ := run_of_reinit (a := { opInit := true }) as s' rfl
  rw [hparams] at hrun hsettled
  exact ⟨_, t, t', hrun, hrun', hsettled.parser.trans hsettled'.parser.symm⟩

/-- A read after any bytes shows the active channel from before them. -/
theorem showings_bytes_getac (ps : Params) (bs : List Byte) (p : Parser) :
    showings ps (sendBytes bs ++ [encode .getac]) p =
      showings ps (sendBytes bs) p ++ [⟨none, some (chanValue p.ach)⟩] := by
  rw [showings_append, ← blockAfter_bytes_ach ps bs p]
  rfl

theorem chanValue_eq (c : ChanCode) : chanValue c = if c.msb then none else some (c.extractLsb' 0 4) := rfl

/-- Settles O35: bytes keep the active channel, and the read at the end of the run shows it. -/
theorem getActiveChannelReturnsTheLastValueWritten : Obligations.GetActiveChannelReturnsTheLastValueWritten := by
  refine ⟨fun s hinit => exec_getac_next s hinit, fun bs s => ?_, fun bs c s hinit => ?_⟩
  · obtain ⟨t, hrun, -⟩ := run_of_reinit (a := { opInit := true }) (sendBytes bs ++ [encode .getac]) s rfl
    rw [showings_bytes_getac] at hrun
    exact ⟨reports none :: showings s.params (sendBytes bs) Parser.reset, t, hrun⟩
  · obtain ⟨t, hrun, -⟩ := run_of_initialised (encode (.setac c) :: (sendBytes bs ++ [encode .getac])) hinit
    rw [showings_cons, showings_bytes_getac] at hrun
    refine ⟨reports none :: showings s.params (sendBytes bs) (writeActive c s.parser), t, hrun.trans ?_⟩
    rw [← chanValue_eq, ← chanValue_chanCode (chanValue c)]
    rfl

/-- Settles O46: the two blocks differ in the active channel alone, byte after byte. -/
theorem activeChannelDoesNotReachDecoding : Obligations.ActiveChannelDoesNotReachDecoding := by
  intro bs c s hinit
  obtain ⟨t, hrun, hsettled⟩ := run_of_initialised (sendBytes bs) hinit
  obtain ⟨t', hrun', hsettled'⟩ :=
    run_of_initialised (sendBytes bs) (s := { s with parser := { s.parser with ach := c } }) hinit
  obtain ⟨hshow, hblock⟩ := run_bytes_of_simulation (ps := s.params) (R := fun p q => q = { p with ach := c })
    (fun b p q hq => by rw [hq, activeBlind_parseByte s.params b c p]; exact ⟨rfl, rfl⟩) bs
    (p := s.parser) (q := { s.parser with ach := c }) rfl
  refine ⟨_, t, t', hrun, hrun'.trans (by rw [hshow]), ?_, ?_⟩
  · rw [hsettled.parser, blockAfter_bytes_ach]
  · rw [hsettled'.parser, hsettled.parser, hblock]

end Sys2Proof.Machine
end

section
/-! PROOFS. Streams of bytes (40_status_bytes.md section 6; 95_test_vectors.md): the bytes that pass through a message,
those that abandon it, and what the pairs of a channel voice kind report. -/

namespace Sys2Proof.Machine

/-! ## Bytes that pass through a message -/

section

variable {ps : Params} {b : Byte}

/-- A real-time or undefined byte leaves the block and reports its own message or nothing (40_status_bytes.md R130). -/
theorem parseByte_of_passesThrough (h : passesThrough ps.statusMap b = true) (p : Parser) :
    parseByte ps b p = (p, (lookupStatus ps.statusMap b).realTime.map fun m => ⟨none, m⟩) := by
  obtain ⟨hstatus, hclass⟩ := Bool.and_eq_true_iff.mp h
  rw [parseByte_of_status _ _ hstatus, statusStep]
  cases hrow : lookupStatus ps.statusMap b with
  | timingClock | start | cont | stop | activeSense | systemReset | undefF4 | undefF5 | undefF9 | undefFD => rfl
  | _ => simp [hrow, StatusRow.realTime, StatusRow.undefined] at hclass

/-- A status byte of the other classes sets the message it opens or none, whatever was pending (40_status_bytes.md
R129). -/
theorem parseByte_of_abandons (h : abandons ps.statusMap b = true) :
    ∃ k ch m, ∀ p, parseByte ps b p = ({ p with pk := k, pch := ch, cnt := 0 }, m) := by
  obtain ⟨hstatus, hpass⟩ := Bool.and_eq_true_iff.mp h
  have hclass : ((lookupStatus ps.statusMap b).realTime.isSome || (lookupStatus ps.statusMap b).undefined) = false := by
    simpa [passesThrough, hstatus] using hpass
  simp only [parseByte_of_status _ _ hstatus, statusStep]
  cases hrow : lookupStatus ps.statusMap b with
  | timingClock | start | cont | stop | activeSense | systemReset | undefF4 | undefF5 | undefF9 | undefFD =>
    simp [hrow, StatusRow.realTime, StatusRow.undefined] at hclass
  | _ => exact ⟨_, _, _, fun _ => rfl⟩

theorem abandons_of_status (hstatus : isStatusByte b = true) (hpass : passesThrough ps.statusMap b = false) :
    abandons ps.statusMap b = true := by
  simp [abandons, hstatus, hpass]

end

/-- Bytes that pass through can be taken out of a stream: the block and the other showings stay. -/
theorem run_bytes_without_passing (ps : Params) (bs : List Byte) (p : Parser) :
    blockAfter ps (sendBytes (bs.filter fun b => !passesThrough ps.statusMap b)) p = blockAfter ps (sendBytes bs) p ∧
    (((bs.zip (showings ps (sendBytes bs) p)).filter fun x => !passesThrough ps.statusMap x.1).map Prod.snd =
      showings ps (sendBytes (bs.filter fun b => !passesThrough ps.statusMap b)) p) ∧
    ∀ x ∈ bs.zip (showings ps (sendBytes bs) p), passesThrough ps.statusMap x.1 = true →
      x.2 = passingReport ps.statusMap x.1 := by
  induction bs generalizing p with
  | nil => exact ⟨rfl, rfl, nofun⟩
  | cons b bs ih =>
    obtain ⟨hblock, hshow, hreport⟩ := ih (parseByte ps b p).1
    cases hpass : passesThrough ps.statusMap b with
    | true =>
      rw [parseByte_of_passesThrough hpass] at hblock hshow hreport
      simp only [sendBytes_cons, showings_byte, blockAfter_byte, parseByte_of_passesThrough hpass, List.zip_cons_cons,
        List.filter_cons, hpass, Bool.not_true, Bool.false_eq_true, if_false]
      refine ⟨hblock, hshow, fun x hx hx' => ?_⟩
      obtain rfl | hx := List.mem_cons.mp hx
      · rfl
      · exact hreport x hx hx'
    | false =>
      simp only [sendBytes_cons, showings_byte, blockAfter_byte, List.zip_cons_cons, List.filter_cons, hpass,
        Bool.not_false, if_true, List.map_cons, hshow, hblock]
      refine ⟨trivial, trivial, fun x hx hx' => ?_⟩
      obtain rfl | hx := List.mem_cons.mp hx
      · simp [hpass] at hx'
      · exact hreport x hx hx'

/-- Settles O44: the two runs end in one block, and their showings are those of the bytes that stay. -/
theorem realTimeAndUndefinedBytesAreTransparent : Obligations.RealTimeAndUndefinedBytesAreTransparent := by
  intro bs s hinit
  obtain ⟨t, hrun, hsettled⟩ := run_of_initialised (sendBytes bs) hinit
  obtain ⟨t', hrun', hsettled'⟩ :=
    run_of_initialised (sendBytes (bs.filter fun b => !passesThrough s.params.statusMap b)) hinit
  obtain ⟨hblock, hshow, hreport⟩ := run_bytes_without_passing s.params bs s.parser
  exact ⟨_, _, t, t', hrun, hrun', by rw [hsettled.parser, hsettled'.parser, hblock], hshow, hreport⟩

/-! ## Bytes that abandon a message -/

/-- Two blocks with the same message under way: the first byte of the buffer counts only while it is held. -/
structure SameMessage (p q : Parser) : Prop where
  kind : p.pk = q.pk
  channel : p.pch = q.pch
  count : p.cnt = q.cnt
  held : p.cnt = 0 ∨ p.buf0 = q.buf0

/-- The same message reported, and the same message under way after it. -/
def SameReply (r r' : Reply) : Prop := SameMessage r.1 r'.1 ∧ r.2 = r'.2

section

variable {p q : Parser}

theorem SameMessage.overflowGuard (h : SameMessage p q) : SameReply (overflowGuard p) (overflowGuard q) :=
  ⟨⟨h.kind, h.channel, rfl, .inl rfl⟩, rfl⟩

theorem SameMessage.acc2 (h : SameMessage p q) (f : Channel → Data7 → Data7 → Message) (b : Byte)
    (hroom : p.cnt.toNat < 2) : SameReply (acc2 f b p) (acc2 f b q) := by
  obtain hcnt | hcnt := cnt_eq_zero_or_one hroom
  · rw [acc2_first f b p hcnt, acc2_first f b q (h.count.symm.trans hcnt)]
    exact ⟨⟨h.kind, h.channel, rfl, .inr rfl⟩, rfl⟩
  · have hheld : p.buf0 = q.buf0 := h.held.resolve_left (by rw [hcnt]; decide)
    rw [acc2_second f b p hcnt, acc2_second f b q (h.count.symm.trans hcnt), h.channel, hheld]
    exact ⟨⟨h.kind, rfl, rfl, .inl rfl⟩, rfl⟩

theorem SameReply.sppEnd {r r' : Reply} (h : SameReply r r') (sppRs : Bool) :
    SameReply (sppEnd sppRs r) (sppEnd sppRs r') := by
  obtain ⟨hsame, hmessage⟩ := h
  unfold Machine.sppEnd
  rw [hmessage]
  split
  · exact ⟨⟨rfl, hsame.channel, hsame.count, hsame.held⟩, rfl⟩
  · exact ⟨hsame, hmessage⟩

theorem SameMessage.takeByte (h : SameMessage p q) (sppRs : Bool) (k : Kind) (b : Byte) (hroom : p.cnt.toNat < need k) :
    SameReply (takeByte sppRs k b p) (takeByte sppRs k b q) := by
  cases k with
  | noteOff | noteOn | polyKeyPressure | controlChange | pitchBend => exact h.acc2 _ b hroom
  | songPositionPointer => exact (h.acc2 _ b hroom).sppEnd sppRs
  | programChange | channelPressure => exact ⟨h, by simp [Machine.takeByte, h.channel]⟩
  | songSelect | mtcQuarterFrame =>
    exact ⟨⟨rfl, h.channel, h.count, h.held⟩, by simp [Machine.takeByte, h.channel]⟩
  | _ => exact h.overflowGuard

theorem SameMessage.dataStep (h : SameMessage p q) (sppRs : Bool) {b : Byte} (hb : b.toNat ≤ 127) :
    SameReply (dataStep sppRs b p) (dataStep sppRs b q) := by
  rw [dataStep_eq_dataChecks, dataStep_eq_dataChecks, ← h.kind]
  by_cases hfull : need p.pk ≤ p.cnt.toNat
  · rw [dataChecks_full _ b _ p hb hfull, dataChecks_full _ b _ q hb (h.count ▸ hfull)]
    exact h.overflowGuard
  · have hroom := Nat.not_le.mp hfull
    rw [dataChecks_take _ b _ p hb hroom, dataChecks_take _ b _ q hb (h.count ▸ hroom)]
    exact h.takeByte sppRs _ b hroom

theorem sameReply_of_abandons {ps : Params} {b : Byte} (hb : abandons ps.statusMap b = true) (p q : Parser) :
    SameReply (parseByte ps b p) (parseByte ps b q) := by
  obtain ⟨k, ch, m, hparse⟩ := parseByte_of_abandons hb
  rw [hparse, hparse]
  exact ⟨⟨rfl, rfl, rfl, .inl rfl⟩, rfl⟩

theorem SameMessage.parseByte (h : SameMessage p q) (ps : Params) (b : Byte) :
    SameReply (parseByte ps b p) (parseByte ps b q) := by
  cases hstatus : isStatusByte b with
  | false =>
    rw [parseByte_of_data _ _ hstatus, parseByte_of_data _ _ hstatus]
    exact h.dataStep ps.sppRs ((not_status_iff b).mp hstatus)
  | true =>
    cases hpass : passesThrough ps.statusMap b with
    | true =>
      rw [parseByte_of_passesThrough hpass, parseByte_of_passesThrough hpass]
      exact ⟨h, rfl⟩
    | false => exact sameReply_of_abandons (abandons_of_status hstatus hpass) p q

theorem SameMessage.triple (h : SameMessage p q) : p.triple = q.triple := by
  rw [Parser.triple, Parser.triple, h.kind, h.channel, h.count]

end

/-- Settles O45: after the abandoning byte the same message is under way in both blocks, and every byte keeps it so. -/
theorem abandoningStatusForgetsThePartialMessage : Obligations.AbandoningStatusForgetsThePartialMessage := by
  intro b bs s s' hinit hinit' hparams hb
  obtain ⟨t, hrun, hsettled⟩ := run_of_initialised (sendBytes (b :: bs)) hinit
  obtain ⟨t', hrun', hsettled'⟩ := run_of_initialised (sendBytes (b :: bs)) hinit'
  rw [← hparams] at hrun' hsettled'
  obtain ⟨hsame, hmessage⟩ := sameReply_of_abandons hb s.parser s'.parser
  obtain ⟨hshow, hblock⟩ := run_bytes_of_simulation (R := SameMessage) (fun c p q h => h.parseByte s.params c) bs hsame
  refine ⟨_, t, t', hrun, hrun'.trans ?_, ?_⟩
  · rw [sendBytes_cons, showings_byte, showings_byte, hmessage, hshow]
  · rw [hsettled.parser, hsettled'.parser, sendBytes_cons, blockAfter_byte, blockAfter_byte]
    exact hblock.triple

end Sys2Proof.Machine
end

section
/-! PROOFS. The reports of whole messages under the default table (95_test_vectors.md): Note On, channel mode and Pitch
Bend pairs, data bytes with no message open and inside a SysEx, and the triples a run can reach. -/

namespace Sys2Proof.Machine

/-! ## Status bytes of the default table -/

/-- The high halves of the channel voice status bytes, each with its row and the kind it opens (30_encoding.md R74). -/
def voicePatterns : List (Nibble × StatusRow × Kind) :=
  [(0x8, .noteOff, .noteOff), (0x9, .noteOn, .noteOn), (0xA, .polyKeyPressure, .polyKeyPressure),
   (0xB, .controlChange, .controlChange), (0xC, .programChange, .programChange),
   (0xD, .channelPressure, .channelPressure), (0xE, .pitchBend, .pitchBend)]

theorem voice_byte_fields : ∀ row ∈ voicePatterns, ∀ c : Nibble,
    isStatusByte (row.1 ++ c) = true ∧ lookupStatus midiStatusMap (row.1 ++ c) = row.2.1 ∧
      lowNibble (row.1 ++ c) = c := by
  decide

theorem statusStep_voice {row : Nibble × StatusRow × Kind} (hrow : row ∈ voicePatterns) {m : List MapRow} {b : Byte}
    (hlookup : lookupStatus m b = row.2.1) (p : Parser) : statusStep m b p = cvStatus row.2.2 (lowNibble b) p := by
  simp only [statusStep, hlookup]
  fin_cases hrow <;> rfl

section

variable {ps : Params} (hmap : ps.statusMap = midiStatusMap)

include hmap

theorem parseByte_voice {row : Nibble × StatusRow × Kind} (hrow : row ∈ voicePatterns) (c : Nibble) (p : Parser) :
    parseByte ps (row.1 ++ c) p = cvStatus row.2.2 c p := by
  obtain ⟨hstatus, hlookup, hlow⟩ := voice_byte_fields row hrow c
  rw [parseByte_of_status _ _ hstatus, hmap, statusStep_voice hrow hlookup, hlow]

theorem parseByte_sysexStart (p : Parser) : parseByte ps 0xF0 p = sysexStatus p := by
  rw [parseByte_of_status _ _ (by decide), hmap]; rfl

theorem parseByte_mtcQuarterFrame (p : Parser) : parseByte ps 0xF1 p = scPayloadStatus .mtcQuarterFrame p := by
  rw [parseByte_of_status _ _ (by decide), hmap]; rfl

theorem parseByte_songPositionPointer (p : Parser) : parseByte ps 0xF2 p = scPayloadStatus .songPositionPointer p := by
  rw [parseByte_of_status _ _ (by decide), hmap]; rfl

theorem parseByte_songSelect (p : Parser) : parseByte ps 0xF3 p = scPayloadStatus .songSelect p := by
  rw [parseByte_of_status _ _ (by decide), hmap]; rfl

theorem parseByte_tuneRequest (p : Parser) : parseByte ps 0xF6 p = scBareStatus .tuneRequest p := by
  rw [parseByte_of_status _ _ (by decide), hmap]; rfl

theorem parseByte_endOfExclusive (p : Parser) : parseByte ps 0xF7 p = scBareStatus .endOfExclusive p := by
  rw [parseByte_of_status _ _ (by decide), hmap]; rfl

end

/-! ## Pairs of data bytes -/

theorem isStatusByte_data : ∀ x : Data7, isStatusByte (0#1 ++ x) = false := by decide

@[simp] theorem data7_data : ∀ x : Data7, data7 (0#1 ++ x) = x := by decide

/-- The first byte of a pair is held. -/
theorem takeByte_first (sppRs : Bool) {k : Kind} (b : Byte) {p : Parser} (hneed : need k = 2) (hcnt : p.cnt = 0) :
    takeByte sppRs k b p = ({ p with buf0 := b, cnt := 1 }, none) := by
  cases k with
  | noteOff | noteOn | polyKeyPressure | controlChange | pitchBend => exact acc2_first _ b p hcnt
  | songPositionPointer => exact takeByte_songPositionPointer_first sppRs b hcnt
  | _ => cases hneed

section

variable {ps : Params} {b : Byte} {p : Parser}

theorem parseByte_room (hb : isStatusByte b = false) (hroom : p.cnt.toNat < need p.pk) :
    parseByte ps b p = takeByte ps.sppRs p.pk b p := by
  rw [parseByte_of_data _ _ hb, dataStep_take _ ((not_status_iff b).mp hb) hroom, routeData_eq_takeByte]

theorem parseByte_full (hb : isStatusByte b = false) (hfull : need p.pk ≤ p.cnt.toNat) :
    parseByte ps b p = overflowGuard p := by
  rw [parseByte_of_data _ _ hb, dataStep_full _ ((not_status_iff b).mp hb) hfull]

theorem parseByte_first (hb : isStatusByte b = false) (hneed : need p.pk = 2) (hcnt : p.cnt = 0) :
    parseByte ps b p = ({ p with buf0 := b, cnt := 1 }, none) := by
  rw [parseByte_room hb (by simp [hneed, hcnt]), takeByte_first _ b hneed hcnt]

theorem parseByte_second {row : (Byte → Instr) × Kind × (Channel → Data7 → Data7 → Message)} (hrow : row ∈ twoByteRows)
    (hspp : row.2.1 = .songPositionPointer → ps.sppRs = true) (hb : isStatusByte b = false) (hpk : p.pk = row.2.1)
    (hcnt : p.cnt = 1) :
    parseByte ps b p =
      ({ p with buf1 := b, cnt := 0 }, some (row.2.2 (chanValue p.pch) (data7 p.buf0) (data7 b))) := by
  rw [parseByte_room hb (by simp [hpk, need_twoByteRow hrow, hcnt]), ← routeData_eq_takeByte,
    routeData_twoByteRow hrow hspp b hpk, acc2_second _ b p hcnt]

end

/-- A run of two data bytes of a pair: nothing for the first, the message for the second, running status kept. -/
theorem run_pair {ps : Params} {row : (Byte → Instr) × Kind × (Channel → Data7 → Data7 → Message)}
    (hrow : row ∈ twoByteRows) (hspp : row.2.1 = .songPositionPointer → ps.sppRs = true) (x y : Data7) (bs : List Byte)
    {p : Parser} (hpk : p.pk = row.2.1) (hcnt : p.cnt = 0) :
    ∃ q : Parser, q.pk = p.pk ∧ q.pch = p.pch ∧ q.cnt = 0 ∧
      showings ps (sendBytes ((0#1 ++ x) :: (0#1 ++ y) :: bs)) p =
        reports none :: reports (some (row.2.2 (chanValue p.pch) x y)) :: showings ps (sendBytes bs) q ∧
      blockAfter ps (sendBytes ((0#1 ++ x) :: (0#1 ++ y) :: bs)) p = blockAfter ps (sendBytes bs) q := by
  have hfirst : parseByte ps (0#1 ++ x) p = ({ p with buf0 := 0#1 ++ x, cnt := 1 }, none) :=
    parseByte_first (isStatusByte_data x) (by rw [hpk, need_twoByteRow hrow]) hcnt
  have hsecond := parseByte_second (ps := ps) hrow hspp (isStatusByte_data y)
    (p := { p with buf0 := 0#1 ++ x, cnt := 1 }) hpk rfl
  simp only [data7_data] at hsecond
  refine ⟨{ p with buf0 := 0#1 ++ x, buf1 := 0#1 ++ y, cnt := 0 }, rfl, rfl, rfl, ?_, ?_⟩
  · rw [sendBytes_cons, sendBytes_cons, showings_byte, hfirst, showings_byte, hsecond]
  · rw [sendBytes_cons, sendBytes_cons, blockAfter_byte, hfirst, blockAfter_byte, hsecond]

/-! ## The statements about pairs -/

section

variable {pat : Nibble} {st : StatusRow} {row : (Byte → Instr) × Kind × (Channel → Data7 → Data7 → Message)}
  (hrow : row ∈ twoByteRows) (hvoice : (pat, st, row.2.1) ∈ voicePatterns) (c : Nibble) {s : State}
  (hinit : s.initialised = true) (hmap : s.params.statusMap = midiStatusMap)

include hvoice in
theorem ne_songPositionPointer_of_voice : row.2.1 ≠ .songPositionPointer := by
  intro h
  rw [h] at hvoice
  revert hvoice
  simp [voicePatterns]

include hrow hvoice hmap

/-- A channel voice status opens its kind, and the first pair reports its message on the status's channel. -/
theorem run_voice_pair (x y : Data7) (bs : List Byte) :
    ∃ q : Parser, q.pk = row.2.1 ∧ q.pch = chanCode (some c) ∧ q.cnt = 0 ∧
      showings s.params (sendBytes ((pat ++ c) :: (0#1 ++ x) :: (0#1 ++ y) :: bs)) s.parser =
        reports none :: reports none :: reports (some (row.2.2 (some c) x y)) :: showings s.params (sendBytes bs) q ∧
      blockAfter s.params (sendBytes ((pat ++ c) :: (0#1 ++ x) :: (0#1 ++ y) :: bs)) s.parser =
        blockAfter s.params (sendBytes bs) q := by
  have hopen := parseByte_voice hmap hvoice c s.parser
  obtain ⟨q, hpk, hpch, hcnt, hshow, hblock⟩ :=
    run_pair (ps := s.params) hrow (fun h => absurd h (ne_songPositionPointer_of_voice hvoice)) x y bs
      (p := (cvStatus row.2.1 c s.parser).1) rfl rfl
  refine ⟨q, hpk, hpch, hcnt, ?_, ?_⟩
  · rw [sendBytes_cons, showings_byte, hopen, hshow, cvStatus_pch, chanValue_chanCode, cvStatus_message]
  · rw [sendBytes_cons, blockAfter_byte, hopen, hblock]

include hinit

/-- A channel voice status and two pairs report two messages, the second under running status. -/
theorem run_voice_two_pairs (x y x' y' : Data7) :
    ∃ t, run (sendBytes [pat ++ c, 0#1 ++ x, 0#1 ++ y, 0#1 ++ x', 0#1 ++ y']) s =
        some ([reports none, reports none, reports (some (row.2.2 (some c) x y)), reports none,
               reports (some (row.2.2 (some c) x' y'))], t) ∧
      t.parser.triple = (row.2.1, 0#1 ++ c, 0) := by
  obtain ⟨q, hpk, hpch, hcnt, hshow, hblock⟩ := run_voice_pair hrow hvoice c hmap x y [0#1 ++ x', 0#1 ++ y']
  obtain ⟨q', hpk', hpch', hcnt', hshow', hblock'⟩ :=
    run_pair (ps := s.params) hrow (fun h => absurd h (ne_songPositionPointer_of_voice hvoice)) x' y' [] hpk hcnt
  obtain ⟨t, hrun, hsettled⟩ :=
    run_of_initialised (sendBytes [pat ++ c, 0#1 ++ x, 0#1 ++ y, 0#1 ++ x', 0#1 ++ y']) hinit
  refine ⟨t, hrun.trans ?_, ?_⟩
  · rw [hshow, hshow', hpch, chanValue_chanCode]
    rfl
  · rw [hsettled.parser, hblock, hblock', sendBytes_nil, blockAfter_nil, Parser.triple, hpk', hpk, hpch', hpch, hcnt']
    rfl

end

/-- Settles O47: the two pairs of `run_voice_two_pairs`, with the velocities told apart (41_data_bytes.md R144). -/
theorem noteOnIsReportedForEveryChannelNoteAndVelocity :
    Obligations.NoteOnIsReportedForEveryChannelNoteAndVelocity := by
  intro c n v n' v' s hinit hmap
  have hmessage (x y : Data7) :
      assembleNoteOn (some c) x y = ⟨some c, if y = 0 then .noteOff x 0 else .noteOn x y⟩ := by
    unfold assembleNoteOn
    split <;> rfl
  rw [← hmessage, ← hmessage]
  exact run_voice_two_pairs (row := (.dataNoteOn, .noteOn, assembleNoteOn)) (st := .noteOn) (by simp [twoByteRows])
    (by simp [voicePatterns]) c hinit hmap n v n' v'

/-- Settles O48: the two pairs of `run_voice_two_pairs`, the first a channel-mode controller, the second not. -/
theorem channelModePairsAreReportedOnEveryChannel : Obligations.ChannelModePairsAreReportedOnEveryChannel := by
  intro row hrow c v n w s hinit hmap hn
  have hmode : assembleControlChange (some c) row.1 v = ⟨some c, row.2 row.1 v⟩ := by fin_cases hrow <;> rfl
  have hplain : assembleControlChange (some c) n w = ⟨some c, .controlChange n w⟩ := by
    rw [assembleControlChange_eq, if_neg (Nat.not_le.mpr hn)]
  rw [← hmode, ← hplain]
  exact run_voice_two_pairs (row := (.dataControlChange, .controlChange, assembleControlChange)) (st := .controlChange)
    (by simp [twoByteRows]) (by simp [voicePatterns]) c hinit hmap row.1 v n w

/-- The two halves of a 14-bit value are the only pair that assembles it. -/
theorem v14_eq_iff (f g : Data7) (v : Value14) :
    v14 f g = v ↔ f = BitVec.ofNat 7 v.toNat ∧ g = BitVec.ofNat 7 (v.toNat / 128) := by
  have hf := f.isLt
  have hg := g.isLt
  have hv := v.isLt
  simp only [← BitVec.toNat_inj, v14_toNat, BitVec.toNat_ofNat]
  omega

/-- Settles O49: the pair of `run_voice_pair`, and the division of a value by 128. -/
theorem pitchBendPairsCoverEveryValueOnce : Obligations.PitchBendPairsCoverEveryValueOnce := by
  refine ⟨fun c f g s hinit hmap => ?_, fun v => ?_⟩
  · obtain ⟨q, -, -, -, hshow, -⟩ :=
      run_voice_pair (row := (.dataPitchBend, .pitchBend, assemblePitchBend)) (st := .pitchBend) (pat := 0xE)
        (by simp [twoByteRows]) (by simp [voicePatterns]) c hmap f g []
    obtain ⟨t, hrun, -⟩ := run_of_initialised (sendBytes [0xE#4 ++ c, 0#1 ++ f, 0#1 ++ g]) hinit
    exact ⟨t, v14 f g, v14_toNat f g, hrun.trans (congrArg (fun l => some (l, t)) hshow)⟩
  · refine ⟨(BitVec.ofNat 7 v.toNat, BitVec.ofNat 7 (v.toNat / 128)), (v14_eq_iff _ _ v).mpr ⟨rfl, rfl⟩, ?_⟩
    rintro ⟨f, g⟩ h
    obtain ⟨rfl, rfl⟩ := (v14_eq_iff f g v).mp h
    rfl

/-! ## Streams with no message open, and inside a SysEx -/

/-- A byte that is no message's data keeps `pk` NONE, and its report is its own (70_reset_and_hazards.md R234). -/
theorem parseByte_of_none {ps : Params} (hmap : ps.statusMap = midiStatusMap) {b : Byte}
    (hb : isStatusByte b = true → passesThrough midiStatusMap b = true ∨ b = 0xF6 ∨ b = 0xF7) {p : Parser}
    (hp : p.pk = .none) :
    (parseByte ps b p).1.pk = .none ∧
      reports (parseByte ps b p).2 =
        if isStatusByte b = false then reports none
        else if b = 0xF6 then reports (some ⟨none, .tuneRequest⟩)
        else if b = 0xF7 then reports (some ⟨none, .endOfExclusive⟩)
        else passingReport midiStatusMap b := by
  cases hstatus : isStatusByte b with
  | false =>
    rw [parseByte_full hstatus (by simp [hp, need])]
    exact ⟨hp, rfl⟩
  | true =>
    obtain hpass | rfl | rfl := hb hstatus
    · have htune : b ≠ 0xF6 := by rintro rfl; revert hpass; decide
      have hend : b ≠ 0xF7 := by rintro rfl; revert hpass; decide
      rw [parseByte_of_passesThrough (by rwa [hmap]), hmap, if_neg nofun, if_neg htune, if_neg hend]
      exact ⟨hp, rfl⟩
    · rw [parseByte_tuneRequest hmap]
      exact ⟨rfl, rfl⟩
    · rw [parseByte_endOfExclusive hmap]
      exact ⟨rfl, rfl⟩

/-- Settles O50: no byte of these opens a message, so the kind stays NONE and each byte's report is its own. -/
theorem dataBytesAfterResetAreIgnored : Obligations.DataBytesAfterResetAreIgnored := by
  intro bs s a ha hmap hbs
  have hreinit : (a.opInit || a.opReset) = true := by obtain rfl | rfl := ha <;> rfl
  obtain ⟨t, hrun, hsettled⟩ := run_of_reinit (sendBytes bs) s hreinit
  obtain ⟨hshow, hblock⟩ := run_bytes_of_invariant (P := fun p => p.pk = .none)
    (fun b hb p hp => parseByte_of_none hmap (hbs b hb) hp) (p := Parser.reset) rfl
  exact ⟨t, by rw [hrun, hshow], by rw [hsettled.parser, hblock]⟩

/-- Inside a SysEx data bytes are absorbed, and the bytes that pass through report themselves. -/
theorem parseByte_of_sysex {ps : Params} (hmap : ps.statusMap = midiStatusMap) {b : Byte}
    (hb : isStatusByte b = true → passesThrough midiStatusMap b = true) {p : Parser}
    (hp : p.triple = (.sysexStart, 0b10000, 0)) :
    (parseByte ps b p).1.triple = (.sysexStart, 0b10000, 0) ∧
      reports (parseByte ps b p).2 = if isStatusByte b then passingReport midiStatusMap b else reports none := by
  cases hstatus : isStatusByte b with
  | false =>
    obtain ⟨hpk, hpch, -⟩ : p.pk = .sysexStart ∧ p.pch = 0b10000 ∧ p.cnt = 0 := by simpa [Parser.triple] using hp
    rw [parseByte_full hstatus (by simp [hpk, need])]
    exact ⟨by simp [Parser.triple, hpk, hpch], rfl⟩
  | true =>
    rw [parseByte_of_passesThrough (by rw [hmap]; exact hb hstatus), hmap]
    exact ⟨hp, rfl⟩

/-- Settles O51: a SysEx needs no data byte, so it stays open with nothing held until 0xF7. -/
theorem sysExPayloadIsOpaqueUntilItsEnd : Obligations.SysExPayloadIsOpaqueUntilItsEnd := by
  intro bs s hinit hmap hbs
  obtain ⟨t, hrun, hsettled⟩ := run_of_initialised (sendBytes (0xF0 :: bs)) hinit
  obtain ⟨u, hrun', hsettled'⟩ := run_of_initialised (sendBytes [0xF7]) hsettled.initialised
  obtain ⟨hshow, hblock⟩ := run_bytes_of_invariant (P := fun p => p.triple = (.sysexStart, 0b10000, 0))
    (fun b hb p hp => parseByte_of_sysex hmap (hbs b hb) hp) (p := (sysexStatus s.parser).1) rfl
  rw [sendBytes_cons, showings_byte, parseByte_sysexStart hmap, hshow] at hrun
  rw [sendBytes_cons, showings_byte, parseByte_endOfExclusive (hsettled.params ▸ hmap)] at hrun'
  refine ⟨t, u, hrun, ?_, hrun', ?_⟩
  · rw [hsettled.parser, sendBytes_cons, blockAfter_byte, parseByte_sysexStart hmap, hblock]
  · rw [hsettled'.parser, sendBytes_cons, blockAfter_byte, parseByte_endOfExclusive (hsettled.params ▸ hmap)]
    rfl

end Sys2Proof.Machine
end

section
/-! PROOFS. The reachable triples (95_test_vectors.md P-REACH): a kind with a channel of its own class, with nothing
held or the first byte of a pair; each is reached by a status byte and at most one data byte. -/

namespace Sys2Proof.Machine

/-! ## The list -/

theorem mem_channelCodes (c : ChanCode) : c ∈ channelCodes ↔ c.msb = false := by
  revert c; decide

/-- The kinds of 10_state.md R24 whose channel is None. -/
def noChannelKinds : List Kind := [.none, .sysexStart, .mtcQuarterFrame, .songPositionPointer, .songSelect]

/-- The kind and the channel fit together (10_state.md R35 INV3). -/
def KindChannel (k : Kind) (c : ChanCode) : Prop :=
  k ∈ channelVoiceKinds ∧ c.msb = false ∨ k ∈ noChannelKinds ∧ c = 0b10000

theorem mem_pairTriples (ks : List Kind) (k : Kind) (c : ChanCode) (n : BitVec 2) :
    (k, c, n) ∈ (ks.flatMap fun k => channelCodes.flatMap fun c => [(k, c, (0 : BitVec 2)), (k, c, 1)]) ↔
      k ∈ ks ∧ c.msb = false ∧ (n = 0 ∨ n = 1) := by
  simp only [List.mem_flatMap, mem_channelCodes, List.mem_cons, Prod.mk.injEq, List.not_mem_nil, or_false]
  grind

theorem mem_singleTriples (ks : List Kind) (k : Kind) (c : ChanCode) (n : BitVec 2) :
    (k, c, n) ∈ (ks.flatMap fun k => channelCodes.map fun c => (k, c, (0 : BitVec 2))) ↔
      k ∈ ks ∧ c.msb = false ∧ n = 0 := by
  simp only [List.mem_flatMap, List.mem_map, mem_channelCodes, Prod.mk.injEq]
  grind

theorem mem_reachableTriples_iff (k : Kind) (c : ChanCode) (n : BitVec 2) :
    (k, c, n) ∈ reachableTriples ↔ KindChannel k c ∧ (n = 0 ∨ n = 1 ∧ need k = 2) := by
  simp only [reachableTriples, List.mem_append, mem_pairTriples, mem_singleTriples, KindChannel]
  cases k <;> simp [channelVoiceKinds, noChannelKinds, need, and_or_left]

/-- Lists indexed by a key that each of their members carries follow one another without a duplicate. -/
theorem nodup_flatMap_of_key {α β : Type} {l : List α} {f : α → List β} (key : β → α) (hl : l.Nodup)
    (hf : ∀ x ∈ l, (f x).Nodup) (hkey : ∀ x, ∀ y ∈ f x, key y = x) : (l.flatMap f).Nodup := by
  refine List.nodup_flatMap.mpr ⟨hf, hl.imp fun hne y hy hy' => hne ?_⟩
  rw [← hkey _ y hy, hkey _ y hy']

theorem nodup_channelCodes : channelCodes.Nodup := by decide

theorem nodup_pairTriples {ks : List Kind} (hks : ks.Nodup) :
    (ks.flatMap fun k => channelCodes.flatMap fun c => [(k, c, (0 : BitVec 2)), (k, c, 1)]).Nodup := by
  refine nodup_flatMap_of_key Prod.fst hks (fun k _ => ?_) (by grind)
  exact nodup_flatMap_of_key (fun x => x.2.1) nodup_channelCodes (by simp) (by simp)

theorem nodup_singleTriples {ks : List Kind} (hks : ks.Nodup) :
    (ks.flatMap fun k => channelCodes.map fun c => (k, c, (0 : BitVec 2))).Nodup := by
  refine nodup_flatMap_of_key Prod.fst hks (fun k _ => ?_) (by simp)
  exact nodup_channelCodes.map fun c c' h => (Prod.mk.inj (Prod.mk.inj h).2).1

/-- The four parts of the list are without duplicates, and their kinds tell them apart. -/
theorem nodup_reachableTriples : reachableTriples.Nodup := by
  refine (((nodup_pairTriples (by decide)).append (nodup_singleTriples (by decide)) ?_).append (by decide) ?_).append
    (by decide) ?_
  all_goals
    rintro ⟨k, c, n⟩ h h'
    simp only [List.mem_append, mem_pairTriples, mem_singleTriples, List.mem_cons, Prod.mk.injEq, List.not_mem_nil,
      or_false] at h h'
    grind

/-! ## Every run stays in it -/

theorem Parser.Inv.blockAfter {p : Parser} (h : p.Inv) (ps : Params) (as : List Activation) :
    (blockAfter ps as p).Inv := by
  induction as generalizing p with
  | nil => exact h
  | cons a as ih => exact ih (h.activationReply ps a)

theorem noChannel_of_not_voice : ∀ k ∈ reachableKinds, k ∉ channelVoiceKinds → k ∈ noChannelKinds := by decide

theorem Parser.Inv.triple_mem {p : Parser} (h : p.Inv) : p.triple ∈ reachableTriples := by
  refine (mem_reachableTriples_iff _ _ _).mpr ⟨?_, ?_⟩
  · by_cases hvoice : p.pk ∈ channelVoiceKinds
    · exact .inl ⟨hvoice, h.channelOfVoice hvoice⟩
    · exact .inr ⟨noChannel_of_not_voice _ h.kind hvoice, h.channelOfOthers hvoice⟩
  · by_cases hneed : need p.pk = 2
    · exact (h.countOfTwo hneed).imp_right fun hcnt => ⟨hcnt, hneed⟩
    · exact .inl (h.countOfOthers hneed)

/-! ## Every member is reached -/

/-- Some stream of bytes leads from reset to the triple. -/
def ReachedByBytes (x : Kind × ChanCode × BitVec 2) : Prop :=
  ∃ bs, (blockAfter defaultParams (sendBytes bs) Parser.reset).triple = x

theorem exists_voicePattern : ∀ k ∈ channelVoiceKinds, ∃ row ∈ voicePatterns, row.2.2 = k := by decide

theorem exists_chanCode_of_msb {c : ChanCode} (h : c.msb = false) : ∃ x : Nibble, chanCode (some x) = c :=
  ⟨c.extractLsb' 0 4, by revert c; decide⟩

/-- A status byte opens every kind with every channel that fits it; NONE is the kind after reset. -/
theorem reachedByBytes_open {k : Kind} {c : ChanCode} (h : KindChannel k c) : ReachedByBytes (k, c, 0) := by
  obtain ⟨hk, hc⟩ | ⟨hk, rfl⟩ := h
  · obtain ⟨row, hrow, rfl⟩ := exists_voicePattern k hk
    obtain ⟨x, rfl⟩ := exists_chanCode_of_msb hc
    exact ⟨[row.1 ++ x], by rw [sendBytes_cons, blockAfter_byte, parseByte_voice rfl hrow]; rfl⟩
  · fin_cases hk
    · exact ⟨[], rfl⟩
    · exact ⟨[0xF0], by rw [sendBytes_cons, blockAfter_byte, parseByte_sysexStart rfl]; rfl⟩
    · exact ⟨[0xF1], by rw [sendBytes_cons, blockAfter_byte, parseByte_mtcQuarterFrame rfl]; rfl⟩
    · exact ⟨[0xF2], by rw [sendBytes_cons, blockAfter_byte, parseByte_songPositionPointer rfl]; rfl⟩
    · exact ⟨[0xF3], by rw [sendBytes_cons, blockAfter_byte, parseByte_songSelect rfl]; rfl⟩

theorem sendBytes_append (bs cs : List Byte) : sendBytes (bs ++ cs) = sendBytes bs ++ sendBytes cs :=
  List.map_append

/-- One data byte more is held, where the kind takes two. -/
theorem ReachedByBytes.first {k : Kind} {c : ChanCode} (h : ReachedByBytes (k, c, 0)) (hneed : need k = 2) :
    ReachedByBytes (k, c, 1) := by
  obtain ⟨bs, hbs⟩ := h
  obtain ⟨rfl, rfl, hcnt⟩ := Prod.mk.inj hbs |>.imp_right Prod.mk.inj
  refine ⟨bs ++ [0], ?_⟩
  rw [sendBytes_append, blockAfter_append, sendBytes_cons, blockAfter_byte, parseByte_first (by decide) hneed hcnt]
  rfl

theorem reachedByBytes_of_mem {x : Kind × ChanCode × BitVec 2} (hx : x ∈ reachableTriples) : ReachedByBytes x := by
  obtain ⟨k, c, n⟩ := x
  obtain ⟨hkind, rfl | ⟨rfl, hneed⟩⟩ := (mem_reachableTriples_iff k c n).mp hx
  · exact reachedByBytes_open hkind
  · exact (reachedByBytes_open hkind).first hneed

/-! ## The statement -/

/-- Settles O42: the invariant bounds the triples of every run, and the bytes above reach each of them. -/
theorem reachableTriplesAreTheListed198 : Obligations.ReachableTriplesAreTheListed198 := by
  refine ⟨rfl, nodup_reachableTriples, fun x => ⟨fun hx => ?_, ?_⟩⟩
  · obtain ⟨bs, rfl⟩ := reachedByBytes_of_mem hx
    obtain ⟨t, hrun, hsettled⟩ := run_of_initialised (sendBytes bs) (s := State.reset) rfl
    exact ⟨_, _, t, hrun, congrArg Parser.triple hsettled.parser⟩
  · rintro ⟨as, shown, t, hrun, rfl⟩
    obtain ⟨t', hrun', hsettled⟩ := run_of_initialised as (s := State.reset) rfl
    obtain ⟨-, rfl⟩ := Prod.mk.inj (Option.some.inj (hrun'.symm.trans hrun))
    rw [hsettled.parser]
    exact (Parser.Inv.reset.blockAfter _ as).triple_mem

end Sys2Proof.Machine
end
